-- ==== Sys2Proof/Word.lean ====
section
/-! DEFINITION. The register words and the plain data shapes of the register file: triples, matrices,
colours, screen points, FIFOs, and the small closed sets of names (lanes, vertices, selectors). -/

namespace Sys2Proof

/-- A register word or command word: 32 bits (00_scope R9, 20_memory R52, 30_encoding R65). -/
abbrev Word := BitVec 32

/-- The 19 stored FLAG bits, bit `k` of the FLAG word being bit `k - 12` here (10_state R33). -/
abbrev FlagSet := BitVec 19

/-- A triple (x, y, z), also read as the components 1, 2, 3 (10_state R50, last paragraph). -/
structure Vec3 (α : Type) where
  /-- component 1: x, red -/
  x : α
  /-- component 2: y, green -/
  y : α
  /-- component 3: z, blue -/
  z : α
deriving DecidableEq, Repr

/-- A 3 by 3 matrix by rows: `M[r][c]` is component `c` of row `r` (10_state R22). -/
structure Mat3 (α : Type) where
  /-- row 1 -/
  r1 : Vec3 α
  /-- row 2 -/
  r2 : Vec3 α
  /-- row 3 -/
  r3 : Vec3 α
deriving DecidableEq, Repr

/-- The three lanes of a three-lane operation (40_primitives R95). -/
inductive Lane where
  | one
  | two
  | three
deriving DecidableEq, Repr

/-- The vertex select `n` of a single-vertex body (30_encoding R71). -/
inductive Vertex where
  | v0
  | v1
  | v2
deriving DecidableEq, Repr

/-- The matrix selector `mx` of `mvmva` (45_general R149, R150). -/
inductive MatrixSel where
  | rt
  | llm
  | lcm
  | buggy
deriving DecidableEq, Repr

/-- The vector selector `vx` of `mvmva` (45_general R149). -/
inductive VectorSel where
  | v0
  | v1
  | v2
  | ir
deriving DecidableEq, Repr

/-- The translation selector `tx` of `mvmva` (45_general R149, R151). -/
inductive TranslationSel where
  | tr
  | bk
  | fc
  | zero
deriving DecidableEq, Repr

/-- A colour: four unsigned 8-bit channels (10_state R13, R19). -/
structure Color where
  r : BitVec 8
  g : BitVec 8
  b : BitVec 8
  /-- the code byte, channel 3 -/
  code : BitVec 8
deriving DecidableEq, Repr

/-- One entry of the screen XY FIFO: `SX[k]`, `SY[k]` (10_state R17). -/
structure ScreenXY where
  x : BitVec 16
  y : BitVec 16
deriving DecidableEq, Repr

/-- A three-entry FIFO, `e0` the oldest and `e2` the newest (10_state R17, R19). -/
structure Fifo3 (α : Type) where
  e0 : α
  e1 : α
  e2 : α
deriving DecidableEq, Repr

/-- A four-entry FIFO, `e0` the oldest and `e3` the newest (10_state R18). -/
structure Fifo4 (α : Type) where
  e0 : α
  e1 : α
  e2 : α
  e3 : α
deriving DecidableEq, Repr

/-- Component `i` of a triple. -/
def Vec3.get {α : Type} (v : Vec3 α) : Lane → α
  | .one => v.x
  | .two => v.y
  | .three => v.z

/-- The triple with component `i` replaced. -/
def Vec3.set {α : Type} (v : Vec3 α) (i : Lane) (a : α) : Vec3 α :=
  match i with
  | .one => { v with x := a }
  | .two => { v with y := a }
  | .three => { v with z := a }

/-- Row `i` of a matrix. -/
def Mat3.row {α : Type} (m : Mat3 α) : Lane → Vec3 α
  | .one => m.r1
  | .two => m.r2
  | .three => m.r3

end Sys2Proof
end

