-- ==== Sys2Proof/Machine/Transaction.lean ====
section
/-! DEFINITION. The five kinds of transaction by which the host acts on the core (00_scope R6), the results the
host receives, and the names of the 58 register words (20_memory R56). -/

namespace Sys2Proof.Machine

/-- A transaction the host issues (00_scope R6). Each is atomic and they take effect in issue order. -/
inductive Transaction where
  /-- `RESET` (70_reset R180) -/
  | reset
  /-- `REGREAD(idx)` (20_memory R53) -/
  | regRead (idx : BitVec 6)
  /-- `REGWRITE(idx, w)` (20_memory R54) -/
  | regWrite (idx : BitVec 6) (w : Word)
  /-- `CLRFLAG` (60_exceptions R171) -/
  | clrFlag
  /-- `COMMAND(cw)` (30_encoding R65 to R73) -/
  | command (cw : Word)
deriving DecidableEq, Repr

/-- A result the host receives: the "result" column of 00_scope R6. `RESET`, `REGWRITE` and `CLRFLAG` have none. -/
inductive Reply where
  /-- the 32-bit word of a `REGREAD` -/
  | word (w : Word)
  /-- the status bit of a `COMMAND`: `false` for a legal word, `true` for a refused one -/
  | illegal (b : Bool)
deriving DecidableEq, Repr

/-- The names of the 58 assigned register words (20_memory R56), in index order. -/
inductive RegName where
  | VXY0 | VZ0 | VXY1 | VZ1 | VXY2 | VZ2 | RGBC | OTZ
  | IR0 | IR1 | IR2 | IR3 | SXY0 | SXY1 | SXY2
  | SZ0 | SZ1 | SZ2 | SZ3 | RGB0 | RGB1 | RGB2
  | MAC0 | MAC1 | MAC2 | MAC3
  | RT11RT12 | RT13RT21 | RT22RT23 | RT31RT32 | RT33 | TRX | TRY | TRZ
  | L11L12 | L13L21 | L22L23 | L31L32 | L33 | RBK | GBK | BBK
  | LR1LR2 | LR3LG1 | LG2LG3 | LB1LB2 | LB3 | RFC | GFC | BFC
  | OFX | OFY | H | DQA | DQB | ZSF3 | ZSF4 | FLAG
deriving DecidableEq, Repr

end Sys2Proof.Machine
end

