-- ==== Sys2Proof/Syntax.lean ====
section
/-! DEFINITION. The 22 commands of spec/opcode_table.json as one inductive type, one constructor per row. -/

namespace Sys2Proof

/-- A command with its decoded operand fields (30_encoding R66, R68, R69). Every command carries `sf`
(shift-fraction bit) and `lm` (lower-limit bit); `mvmva` alone carries the selectors `mx`, `vx`, `tx`.
The ignored bits of a command word (R70) are not part of a command. -/
inductive Instr where
  /-- perspective transform, vertex 0 (R112) -/
  | rtps (sf lm : Bool)
  /-- signed area of the screen triangle (R111) -/
  | nclip (sf lm : Bool)
  /-- cross product with the rotation diagonal (R156) -/
  | op (sf lm : Bool)
  /-- depth cue of the input colour (R136) -/
  | dpcs (sf lm : Bool)
  /-- interpolate the IR vector toward the far colour (R139) -/
  | intpl (sf lm : Bool)
  /-- matrix times vector plus translation (R148) -/
  | mvmva (sf lm : Bool) (mx : MatrixSel) (vx : VectorSel) (tx : TranslationSel)
  /-- normal colour depth cue, vertex 0 (R126) -/
  | ncds (sf lm : Bool)
  /-- colour depth cue (R130) -/
  | cdp (sf lm : Bool)
  /-- normal colour depth cue, vertices 0 to 2 (R127) -/
  | ncdt (sf lm : Bool)
  /-- normal colour colour, vertex 0 (R124) -/
  | nccs (sf lm : Bool)
  /-- colour colour (R129) -/
  | cc (sf lm : Bool)
  /-- normal colour, vertex 0 (R122) -/
  | ncs (sf lm : Bool)
  /-- normal colour, vertices 0 to 2 (R123) -/
  | nct (sf lm : Bool)
  /-- square of the IR vector (R155) -/
  | sqr (sf lm : Bool)
  /-- depth cue of the lit colour (R138) -/
  | dcpl (sf lm : Bool)
  /-- depth cue of the three FIFO colours (R137) -/
  | dpct (sf lm : Bool)
  /-- scaled sum of three screen Z (R114) -/
  | avsz3 (sf lm : Bool)
  /-- scaled sum of four screen Z (R115) -/
  | avsz4 (sf lm : Bool)
  /-- perspective transform, vertices 0 to 2 (R113) -/
  | rtpt (sf lm : Bool)
  /-- scalar times IR vector (R153) -/
  | gpf (sf lm : Bool)
  /-- scalar times IR vector plus MAC (R154) -/
  | gpl (sf lm : Bool)
  /-- normal colour colour, vertices 0 to 2 (R125) -/
  | ncct (sf lm : Bool)
deriving DecidableEq, Repr

end Sys2Proof
end

