-- ==== Sys2Proof/WellFormed.lean ====
section
/-! DEFINITION. What is well formed. A command is well formed by its type; a transaction is well formed when the
core does not refuse it: its register index is assigned and its function number is one of the 22. -/

namespace Sys2Proof

/-- The 22 assigned function numbers (30_encoding R66). -/
def assignedFunctions : List (BitVec 6) :=
  [0x01, 0x06, 0x0C, 0x10, 0x11, 0x12, 0x13, 0x14, 0x16, 0x1B, 0x1C, 0x1E, 0x20, 0x28, 0x29, 0x2A, 0x2D, 0x2E,
   0x30, 0x3D, 0x3E, 0x3F]

/-- The six reserved register indices (20_memory R57). -/
def reservedIndices : List (BitVec 6) := [15, 23, 28, 29, 30, 31]

/-- Every command is well formed: each accepts both values of `sf` and `lm` (30_encoding R68), `mvmva` accepts all
four values of each selector (R69), and the types admit nothing else. -/
def Instr.wellFormed : Instr → Bool
  | .rtps _ _ | .nclip _ _ | .op _ _ | .dpcs _ _ | .intpl _ _ | .mvmva _ _ _ _ _ | .ncds _ _ | .cdp _ _
  | .ncdt _ _ | .nccs _ _ | .cc _ _ | .ncs _ _ | .nct _ _ | .sqr _ _ | .dcpl _ _ | .dpct _ _ | .avsz3 _ _
  | .avsz4 _ _ | .rtpt _ _ | .gpf _ _ | .gpl _ _ | .ncct _ _ => true

/-- A transaction the core accepts: the index of a register access is assigned (20_memory R57), the function number
of a command word is assigned (30_encoding R72), and `RESET` and `CLRFLAG` are always legal (70_reset R180,
60_exceptions R171). These are the two refusals of 60_exceptions R166. -/
def Machine.Transaction.wellFormed : Machine.Transaction → Bool
  | .reset => true
  | .regRead idx => !reservedIndices.contains idx
  | .regWrite idx _ => !reservedIndices.contains idx
  | .clrFlag => true
  | .command cw => assignedFunctions.contains (cw.extractLsb' 0 6)

end Sys2Proof
end

