-- ==== Sys2Proof/Decode.lean ====
section
/-! DEFINITION. The command word format `CMD` (30_encoding R65 to R73): field extraction, the decoder, total and
rejecting an unassigned function number by name, and after it the encoder, the assembler's word of R75, with
the disassembler's listing. -/

namespace Sys2Proof

/-- Why a command word is no command: its function number is unassigned (30_encoding R72). -/
inductive DecodeError where
  | unassignedFunction (fn : BitVec 6)
deriving DecidableEq, Repr

/-- `fn = cw[5:0]`, the function number (30_encoding R65, R66). -/
def fnField (cw : Word) : BitVec 6 := cw.extractLsb' 0 6

/-- `lm = cw[10]` (30_encoding R65, R68). -/
def lmField (cw : Word) : Bool := cw.getLsbD 10

/-- `tx = cw[14:13]` (30_encoding R65, R69). -/
def txField (cw : Word) : BitVec 2 := cw.extractLsb' 13 2

/-- `vx = cw[16:15]` (30_encoding R65, R69). -/
def vxField (cw : Word) : BitVec 2 := cw.extractLsb' 15 2

/-- `mx = cw[18:17]` (30_encoding R65, R69). -/
def mxField (cw : Word) : BitVec 2 := cw.extractLsb' 17 2

/-- `sf = cw[19]` (30_encoding R65, R68). -/
def sfField (cw : Word) : Bool := cw.getLsbD 19

/-- The matrix that a value of `mx` selects (45_general R149, R150). -/
def matrixSelOf (mx : BitVec 2) : MatrixSel :=
  match mx.toNat with
  | 0 => .rt
  | 1 => .llm
  | 2 => .lcm
  | _ => .buggy

/-- The vector that a value of `vx` selects (45_general R149). -/
def vectorSelOf (vx : BitVec 2) : VectorSel :=
  match vx.toNat with
  | 0 => .v0
  | 1 => .v1
  | 2 => .v2
  | _ => .ir

/-- The translation that a value of `tx` selects (45_general R149, R151). -/
def translationSelOf (tx : BitVec 2) : TranslationSel :=
  match tx.toNat with
  | 0 => .tr
  | 1 => .bk
  | 2 => .fc
  | _ => .zero

/-- The decoder: the command is selected by the function number alone (30_encoding R66, R67), its operands are
read from their fields (R68, R69), the ignored bits play no part (R70), and each of the 42 unassigned function
numbers is rejected (R72). Total on every 32-bit word (R73). -/
def decode (cw : Word) : Except DecodeError Instr :=
  let sf := sfField cw
  let lm := lmField cw
  match (fnField cw).toNat with
  | 0x01 => .ok (.rtps sf lm)
  | 0x06 => .ok (.nclip sf lm)
  | 0x0C => .ok (.op sf lm)
  | 0x10 => .ok (.dpcs sf lm)
  | 0x11 => .ok (.intpl sf lm)
  | 0x12 => .ok (.mvmva sf lm (matrixSelOf (mxField cw)) (vectorSelOf (vxField cw)) (translationSelOf (txField cw)))
  | 0x13 => .ok (.ncds sf lm)
  | 0x14 => .ok (.cdp sf lm)
  | 0x16 => .ok (.ncdt sf lm)
  | 0x1B => .ok (.nccs sf lm)
  | 0x1C => .ok (.cc sf lm)
  | 0x1E => .ok (.ncs sf lm)
  | 0x20 => .ok (.nct sf lm)
  | 0x28 => .ok (.sqr sf lm)
  | 0x29 => .ok (.dcpl sf lm)
  | 0x2A => .ok (.dpct sf lm)
  | 0x2D => .ok (.avsz3 sf lm)
  | 0x2E => .ok (.avsz4 sf lm)
  | 0x30 => .ok (.rtpt sf lm)
  | 0x3D => .ok (.gpf sf lm)
  | 0x3E => .ok (.gpl sf lm)
  | 0x3F => .ok (.ncct sf lm)
  | _ => .error (.unassignedFunction (fnField cw))

/-- The instruction the decoder reads from a table row's bits: the row's `nbits` low bits of `w`, every higher
bit 0, are the one command word (30_encoding R65: all command words are one 32-bit word). -/
def decodeTableWord (nbits w : Nat) : Option Instr :=
  match decode (BitVec.ofNat 32 (w % 2 ^ nbits)) with
  | .ok i => some i
  | .error _ => none

/-- The function number of a command (30_encoding R66). -/
def fnOf : Instr → BitVec 6
  | .rtps _ _ => 0x01
  | .nclip _ _ => 0x06
  | .op _ _ => 0x0C
  | .dpcs _ _ => 0x10
  | .intpl _ _ => 0x11
  | .mvmva _ _ _ _ _ => 0x12
  | .ncds _ _ => 0x13
  | .cdp _ _ => 0x14
  | .ncdt _ _ => 0x16
  | .nccs _ _ => 0x1B
  | .cc _ _ => 0x1C
  | .ncs _ _ => 0x1E
  | .nct _ _ => 0x20
  | .sqr _ _ => 0x28
  | .dcpl _ _ => 0x29
  | .dpct _ _ => 0x2A
  | .avsz3 _ _ => 0x2D
  | .avsz4 _ _ => 0x2E
  | .rtpt _ _ => 0x30
  | .gpf _ _ => 0x3D
  | .gpl _ _ => 0x3E
  | .ncct _ _ => 0x3F

/-- The `sf` operand of a command (30_encoding R68). -/
def sfOf : Instr → Bool
  | .rtps sf _ | .nclip sf _ | .op sf _ | .dpcs sf _ | .intpl sf _ | .mvmva sf _ _ _ _ | .ncds sf _ | .cdp sf _
  | .ncdt sf _ | .nccs sf _ | .cc sf _ | .ncs sf _ | .nct sf _ | .sqr sf _ | .dcpl sf _ | .dpct sf _
  | .avsz3 sf _ | .avsz4 sf _ | .rtpt sf _ | .gpf sf _ | .gpl sf _ | .ncct sf _ => sf

/-- The `lm` operand of a command (30_encoding R68). -/
def lmOf : Instr → Bool
  | .rtps _ lm | .nclip _ lm | .op _ lm | .dpcs _ lm | .intpl _ lm | .mvmva _ lm _ _ _ | .ncds _ lm | .cdp _ lm
  | .ncdt _ lm | .nccs _ lm | .cc _ lm | .ncs _ lm | .nct _ lm | .sqr _ lm | .dcpl _ lm | .dpct _ lm
  | .avsz3 _ lm | .avsz4 _ lm | .rtpt _ lm | .gpf _ lm | .gpl _ lm | .ncct _ lm => lm

/-- The value of `mx` that selects a matrix (45_general R149, R150). -/
def mxBits : MatrixSel → BitVec 2
  | .rt => 0
  | .llm => 1
  | .lcm => 2
  | .buggy => 3

/-- The value of `vx` that selects a vector (45_general R149). -/
def vxBits : VectorSel → BitVec 2
  | .v0 => 0
  | .v1 => 1
  | .v2 => 2
  | .ir => 3

/-- The value of `tx` that selects a translation (45_general R149). -/
def txBits : TranslationSel → BitVec 2
  | .tr => 0
  | .bk => 1
  | .fc => 2
  | .zero => 3

/-- The bits 18:13 of a command's word: the selectors `mx`, `vx`, `tx` of `mvmva`, and 0 for every other
command, which ignores them (30_encoding R69, R70, R75). -/
def selectorBits : Instr → BitVec 6
  | .mvmva _ _ mx vx tx => mxBits mx ++ vxBits vx ++ txBits tx
  | .rtps _ _ | .nclip _ _ | .op _ _ | .dpcs _ _ | .intpl _ _ | .ncds _ _ | .cdp _ _ | .ncdt _ _ | .nccs _ _
  | .cc _ _ | .ncs _ _ | .nct _ _ | .sqr _ _ | .dcpl _ _ | .dpct _ _ | .avsz3 _ _ | .avsz4 _ _ | .rtpt _ _
  | .gpf _ _ | .gpl _ _ | .ncct _ _ => 0

/-- A command word put together from its fields: `cop` in bits 31:25, zeros in 24:20, 12:11 and 9:6
(30_encoding R65). -/
def packWord (cop : BitVec 7) (sf : Bool) (sel : BitVec 6) (lm : Bool) (fn : BitVec 6) : Word :=
  cop ++ 0#5 ++ BitVec.ofBool sf ++ sel ++ 0#2 ++ BitVec.ofBool lm ++ 0#4 ++ fn

/-- The encoder: the word the assembler of 30_encoding R75 produces, with 0b0100101 in bits 31:25 and 0 in every
other ignored bit. -/
def encode (i : Instr) : Word :=
  packWord 0b0100101 (sfOf i) (selectorBits i) (lmOf i) (fnOf i)

/-- The bits of a word that the decoder reads for a command: `sf`, `lm` and `fn`, and for `mvmva` the selectors
too (30_encoding R67, R70). -/
def significantBits : Instr → Word
  | .mvmva _ _ _ _ _ => 0x000FE43F
  | .rtps _ _ | .nclip _ _ | .op _ _ | .dpcs _ _ | .intpl _ _ | .ncds _ _ | .cdp _ _ | .ncdt _ _ | .nccs _ _
  | .cc _ _ | .ncs _ _ | .nct _ _ | .sqr _ _ | .dcpl _ _ | .dpct _ _ | .avsz3 _ _ | .avsz4 _ _ | .rtpt _ _
  | .gpf _ _ | .gpl _ _ | .ncct _ _ => 0x0008043F

/-- The lower-case mnemonic of a command (30_encoding R75; the opcode table's spelling). -/
def mnemonicOf : Instr → String
  | .rtps _ _ => "rtps"
  | .nclip _ _ => "nclip"
  | .op _ _ => "op"
  | .dpcs _ _ => "dpcs"
  | .intpl _ _ => "intpl"
  | .mvmva _ _ _ _ _ => "mvmva"
  | .ncds _ _ => "ncds"
  | .cdp _ _ => "cdp"
  | .ncdt _ _ => "ncdt"
  | .nccs _ _ => "nccs"
  | .cc _ _ => "cc"
  | .ncs _ _ => "ncs"
  | .nct _ _ => "nct"
  | .sqr _ _ => "sqr"
  | .dcpl _ _ => "dcpl"
  | .dpct _ _ => "dpct"
  | .avsz3 _ _ => "avsz3"
  | .avsz4 _ _ => "avsz4"
  | .rtpt _ _ => "rtpt"
  | .gpf _ _ => "gpf"
  | .gpl _ _ => "gpl"
  | .ncct _ _ => "ncct"

/-- One operand of a listing line, `field=value`, printed when it is not 0 (30_encoding R75). -/
def listedField (name : String) (value : Nat) : String :=
  match value with
  | 0 => ""
  | 1 => " " ++ name ++ "=1"
  | 2 => " " ++ name ++ "=2"
  | _ => " " ++ name ++ "=3"

/-- The line a disassembler prints for a command: its mnemonic and every non-zero operand field
(30_encoding R75). -/
def listing (i : Instr) : String :=
  let common := mnemonicOf i ++ listedField "sf" (sfOf i).toNat ++ listedField "lm" (lmOf i).toNat
  match i with
  | .mvmva _ _ mx vx tx =>
    common ++ listedField "mx" (mxBits mx).toNat ++ listedField "vx" (vxBits vx).toNat
      ++ listedField "tx" (txBits tx).toNat
  | .rtps _ _ | .nclip _ _ | .op _ _ | .dpcs _ _ | .intpl _ _ | .ncds _ _ | .cdp _ _ | .ncdt _ _ | .nccs _ _
  | .cc _ _ | .ncs _ _ | .nct _ _ | .sqr _ _ | .dcpl _ _ | .dpct _ _ | .avsz3 _ _ | .avsz4 _ _ | .rtpt _ _
  | .gpf _ _ | .gpl _ _ | .ncct _ _ => common

end Sys2Proof
end

