-- ==== Sys2Proof/Config.lean ====
section
/-! DEFINITION. The implementation parameter of the hardware. Every other quantity of 00_scope R9 is fixed by a
rule and stands where the rule's operation is defined. -/

namespace Sys2Proof

/-- The default of the one open parameter `MX3_CONST60` (00_scope R10, decision D22). The parameter itself is a
field of State, so that every statement about all states covers both of its values (log 5).
DESIGN CHOICE: where the parameter is kept; the default is the spec's. -/
def Config.mx3Const60Default : Bool := false

end Sys2Proof
end

