-- ==== Sys2Proof/Machine/State.lean ====
section
/-! DEFINITION. The whole state of one core instance (10_state R11 to R38) as plain data, the reasons a step can
stop, the named updates of the fields, and the state after reset (10_state R49). -/

namespace Sys2Proof.Machine

/-- The core has no fault: "Nothing in this hardware is `stuck` or `fault`: every legal transaction completes"
(93 section 1; 60_exceptions R160, R165). No constructor, so no step can raise one. Safe (log 13). -/
inductive Fault : Type
deriving DecidableEq, Repr

/-- Why a step is refused. -/
inductive Refusal where
  /-- Raised by an arm of `exec` whose instruction has no meaning yet; no arm of this model raises it. Safe: the
  model stops where the hardware goes on. -/
  | notModelled (mnemonic : String)
  /-- Raised by a step whose transaction is a COMMAND with an unassigned function number (30_encoding R72,
  60_exceptions R166, U1): the host receives `illegal` = 1 and no state changes. Safe: the spec names this outcome. -/
  | illegalCommand (fn : BitVec 6)
  /-- Raised by a step whose transaction reads or writes a reserved register index (20_memory R57, 60_exceptions
  R166, U3): no result, no effect. Safe: the spec names this outcome. -/
  | reservedRegister (idx : BitVec 6)
deriving DecidableEq, Repr

/-- The 19 stored conditions of FLAG (10_state R33), from bit 30 down to bit 12. -/
inductive FlagBit where
  | mac1Pos | mac2Pos | mac3Pos | mac1Neg | mac2Neg | mac3Neg
  | ir1Sat | ir2Sat | ir3Sat
  | colorRSat | colorGSat | colorBSat
  | sz3OtzSat | divOvf | mac0Pos | mac0Neg | sx2Sat | sy2Sat | ir0Sat
deriving DecidableEq, Repr

/-- The input vectors `V[0]`, `V[1]`, `V[2]` (10_state R12). -/
structure Vertices where
  v0 : Vec3 (BitVec 16)
  v1 : Vec3 (BitVec 16)
  v2 : Vec3 (BitVec 16)
deriving DecidableEq, Repr

/-- The control registers other than FLAG (10_state R22 to R32): no command writes any of them. -/
structure Control where
  /-- rotation matrix (R22) -/
  rt : Mat3 (BitVec 16)
  /-- translation vector (R23) -/
  tr : Vec3 (BitVec 32)
  /-- light matrix (R24) -/
  llm : Mat3 (BitVec 16)
  /-- background colour (R25) -/
  bk : Vec3 (BitVec 32)
  /-- light-colour matrix (R26) -/
  lcm : Mat3 (BitVec 16)
  /-- far colour (R27) -/
  fc : Vec3 (BitVec 32)
  /-- screen offset x (R28) -/
  ofx : BitVec 32
  /-- screen offset y (R28) -/
  ofy : BitVec 32
  /-- projection plane distance, unsigned (R29) -/
  h : BitVec 16
  /-- depth-cue coefficient (R30) -/
  dqa : BitVec 16
  /-- depth-cue offset (R31) -/
  dqb : BitVec 32
  /-- Z-average scale factor for three (R32) -/
  zsf3 : BitVec 16
  /-- Z-average scale factor for four (R32) -/
  zsf4 : BitVec 16
deriving DecidableEq, Repr

/-- The state of one core instance. The first fifteen fields are the register file and the two latches
(10_state R11 to R37); the last three are the model's own (logs 1, 2 and 5). -/
structure State where
  /-- `V[0..2]` (R12) -/
  v : Vertices
  /-- `RGBC`, the input colour (R13) -/
  rgbc : Color
  /-- `OTZ`, the ordering value, unsigned (R14) -/
  otz : BitVec 16
  /-- `IR[0]`, signed (R15) -/
  ir0 : BitVec 16
  /-- `IR[1]`, `IR[2]`, `IR[3]`, signed (R16) -/
  ir : Vec3 (BitVec 16)
  /-- `SX[0..2]`, `SY[0..2]`, signed (R17) -/
  sxy : Fifo3 ScreenXY
  /-- `SZ[0..3]`, unsigned (R18) -/
  sz : Fifo4 (BitVec 16)
  /-- `RGB[0..2]`, the colour FIFO (R19) -/
  rgb : Fifo3 Color
  /-- `MAC[0]`, signed (R20) -/
  mac0 : BitVec 32
  /-- `MAC[1]`, `MAC[2]`, `MAC[3]`, signed (R21) -/
  mac : Vec3 (BitVec 32)
  /-- the control registers (R22 to R32) -/
  ctrl : Control
  /-- the stored bits of `FLAG` (R33) -/
  flag : FlagSet
  /-- latch `SF` (R37) -/
  sf : Bool
  /-- latch `LM` (R37) -/
  lm : Bool
  /-- the model's own: the parameter `MX3_CONST60` (00_scope R10; log 5) -/
  mx3Const60 : Bool
  /-- the model's own: transactions issued and not yet applied, oldest first (00_scope R6; log 1) -/
  pending : List Transaction
  /-- the model's own: results received by the host, newest first (00_scope R6; log 2) -/
  replies : List Reply
deriving DecidableEq, Repr

/-- The triple of zeros. -/
def zeroVec (n : Nat) : Vec3 (BitVec n) := ⟨0, 0, 0⟩

/-- The matrix of zeros. -/
def zeroMat : Mat3 (BitVec 16) := ⟨zeroVec 16, zeroVec 16, zeroVec 16⟩

/-- The colour whose four fields are 0. -/
def zeroColor : Color := ⟨0, 0, 0, 0⟩

/-- The machine right after `RESET`: every register field 0, every stored FLAG bit 0, both latches 0
(10_state R49, 70_reset R180, the spec's decision D11). No transaction is waiting and no result has been given. -/
def State.reset : State where
  v := ⟨zeroVec 16, zeroVec 16, zeroVec 16⟩
  rgbc := zeroColor
  otz := 0
  ir0 := 0
  ir := zeroVec 16
  sxy := ⟨⟨0, 0⟩, ⟨0, 0⟩, ⟨0, 0⟩⟩
  sz := ⟨0, 0, 0, 0⟩
  rgb := ⟨zeroColor, zeroColor, zeroColor⟩
  mac0 := 0
  mac := zeroVec 32
  ctrl :=
    { rt := zeroMat, tr := zeroVec 32, llm := zeroMat, bk := zeroVec 32, lcm := zeroMat, fc := zeroVec 32,
      ofx := 0, ofy := 0, h := 0, dqa := 0, dqb := 0, zsf3 := 0, zsf4 := 0 }
  flag := 0
  sf := false
  lm := false
  mx3Const60 := Config.mx3Const60Default
  pending := []
  replies := []

/-- `s` with the input vectors replaced. -/
def State.withV (s : State) (v : Vertices) : State := { s with v := v }

/-- `s` with the input colour replaced. -/
def State.withRgbc (s : State) (c : Color) : State := { s with rgbc := c }

/-- `s` with `OTZ` replaced. -/
def State.withOtz (s : State) (w : BitVec 16) : State := { s with otz := w }

/-- `s` with `IR[0]` replaced. -/
def State.withIr0 (s : State) (w : BitVec 16) : State := { s with ir0 := w }

/-- `s` with `IR[1..3]` replaced. -/
def State.withIr (s : State) (w : Vec3 (BitVec 16)) : State := { s with ir := w }

/-- `s` with the screen XY FIFO replaced. -/
def State.withSxy (s : State) (q : Fifo3 ScreenXY) : State := { s with sxy := q }

/-- `s` with the screen Z FIFO replaced. -/
def State.withSz (s : State) (q : Fifo4 (BitVec 16)) : State := { s with sz := q }

/-- `s` with the colour FIFO replaced. -/
def State.withRgb (s : State) (q : Fifo3 Color) : State := { s with rgb := q }

/-- `s` with `MAC[0]` replaced. -/
def State.withMac0 (s : State) (w : BitVec 32) : State := { s with mac0 := w }

/-- `s` with `MAC[1..3]` replaced. -/
def State.withMac (s : State) (w : Vec3 (BitVec 32)) : State := { s with mac := w }

/-- `s` with the control registers replaced. -/
def State.withCtrl (s : State) (c : Control) : State := { s with ctrl := c }

/-- `s` with the stored FLAG bits replaced. -/
def State.withFlag (s : State) (f : FlagSet) : State := { s with flag := f }

/-- `s` with the latches `SF` and `LM` replaced. -/
def State.withLatches (s : State) (sf lm : Bool) : State := { s with sf := sf, lm := lm }

/-- `s` with the waiting transactions replaced. -/
def State.withPending (s : State) (q : List Transaction) : State := { s with pending := q }

/-- `s` with the host's received results replaced. -/
def State.withReplies (s : State) (q : List Reply) : State := { s with replies := q }

end Sys2Proof.Machine
end

