-- ==== Sys2Proof/Machine/Flags.lean ====
section
/-! DEFINITION. The FLAG register: bit positions, sets of flag bits, raising them, the derived `ERR` bit, the FLAG
word and its write mask (10_state R33 to R36, 20_memory R54, R58), and the overflow and clamp detectors
(40_primitives R81, R82). -/

namespace Sys2Proof.Machine

/-- The bit number of a condition in the FLAG word (10_state R33). -/
def FlagBit.pos : FlagBit → Nat
  | .mac1Pos => 30
  | .mac2Pos => 29
  | .mac3Pos => 28
  | .mac1Neg => 27
  | .mac2Neg => 26
  | .mac3Neg => 25
  | .ir1Sat => 24
  | .ir2Sat => 23
  | .ir3Sat => 22
  | .colorRSat => 21
  | .colorGSat => 20
  | .colorBSat => 19
  | .sz3OtzSat => 18
  | .divOvf => 17
  | .mac0Pos => 16
  | .mac0Neg => 15
  | .sx2Sat => 14
  | .sy2Sat => 13
  | .ir0Sat => 12

/-- The set holding one flag bit: bit `pos - 12` of the 19 stored bits (10_state R33). -/
def FlagBit.mask (b : FlagBit) : FlagSet := 1#19 <<< (b.pos - 12)

/-- No flag bit. -/
def noFlags : FlagSet := 0

/-- A flag bit raised when a condition holds. -/
def flagWhen (c : Bool) (b : FlagBit) : FlagSet := if c then b.mask else noFlags

/-- Set every flag bit of a set, sticky: bits already 1 stay 1 (10_state R35). A step that raises several bits
raises their union, since the order is unobservable (R36). -/
def raise (bits : FlagSet) (s : State) : State := s.withFlag (s.flag ||| bits)

/-- Whether a set of flag bits holds a bit. -/
def hasBit (f : FlagSet) (b : FlagBit) : Bool := f.getLsbD (b.pos - 12)

/-- Whether a stored bit of FLAG is 1 (10_state R33). -/
def State.flagged (s : State) (b : FlagBit) : Bool := hasBit s.flag b

/-- The subset of the stored bits that `ERR` summarises: bits 30 to 23 and 18 to 13 of the FLAG word, the mask
0x7F87E000 without its twelve low zeros (10_state R34). -/
def errSubset : FlagSet := 0x7F87E

/-- `FLAG.ERR`, bit 31, derived whenever FLAG is read (10_state R34). -/
def errBit (flag : FlagSet) : Bool := flag &&& errSubset != 0

/-- The FLAG word: `ERR` in bit 31, the stored bits in 30:12, 0 in 11:0 (20_memory R58). -/
def flagWord (flag : FlagSet) : Word := BitVec.ofBool (errBit flag) ++ flag ++ 0#12

/-- What a write of the FLAG word stores: `w[30:12]`; bits 31 and 11:0 are ignored (20_memory R54). -/
def flagOfWord (w : Word) : FlagSet := w.extractLsb' 12 19

/-- `clip(value, max, min, flagBits)`: the clamped value with the flag bits the call raises, which are exactly
`flagBits` and only when `value` is outside [min, max] (40_primitives R81). The value is an unbounded integer. -/
def clip (value max min : Int) (flagBits : FlagSet) : Int × FlagSet :=
  if value > max then (max, flagBits)
  else if value < min then (min, flagBits)
  else (value, noFlags)

/-- `check44(value, posBit, negBit)`: the flag bits raised when `value` leaves [-2^43, 2^43 - 1]
(40_primitives R82, conflict C2). -/
def check44 (value : Int) (posBit negBit : FlagBit) : FlagSet :=
  flagWhen (decide (value ≥ 0x80000000000)) posBit ||| flagWhen (decide (value < -0x80000000000)) negBit

/-- The 32-bit overflow test of `setMac(0, value)`: the flag bits raised when `value` leaves [-2^31, 2^31 - 1]
(40_primitives R84). -/
def check32 (value : Int) : FlagSet :=
  flagWhen (decide (value > 0x7FFFFFFF)) .mac0Pos ||| flagWhen (decide (value < -0x80000000)) .mac0Neg

/-- `MACi_POS` of lane `i` (10_state R33). -/
def macPosBit : Lane → FlagBit
  | .one => .mac1Pos
  | .two => .mac2Pos
  | .three => .mac3Pos

/-- `MACi_NEG` of lane `i` (10_state R33). -/
def macNegBit : Lane → FlagBit
  | .one => .mac1Neg
  | .two => .mac2Neg
  | .three => .mac3Neg

/-- `IRi_SAT` of lane `i` (10_state R33). -/
def irSatBit : Lane → FlagBit
  | .one => .ir1Sat
  | .two => .ir2Sat
  | .three => .ir3Sat

end Sys2Proof.Machine
end

