-- ==== Sys2Proof/Machine/Divider.lean ====
section
/-! DEFINITION. The reciprocal and division unit (41_divider R100 to R108): a pure function of two unsigned 16-bit
inputs and the flag bit it raises; it keeps no state (10_state R38). -/

namespace Sys2Proof.Machine

/-- The zeros at the top of the `k` low bits of `x`, counted down from bit `k - 1`. -/
def leadingZeros (x : BitVec 16) : Nat → Nat
  | 0 => 0
  | k + 1 => if x.getLsbD k then 0 else leadingZeros x k + 1

/-- `clz16(x)`: the number of consecutive 0 bits from bit 15 down; 16 for `x` = 0, which `divideUNR` never asks
(41_divider R101). -/
def clz16 (x : BitVec 16) : Nat := leadingZeros x 16

/-- The reciprocal table `UNR[0..256]`, row `k` being `UNR[16k]` to `UNR[16k + 15]` (41_divider R102). -/
def unrTable : List (BitVec 8) :=
  [0xFF, 0xFD, 0xFB, 0xF9, 0xF7, 0xF5, 0xF3, 0xF1, 0xEF, 0xEE, 0xEC, 0xEA, 0xE8, 0xE6, 0xE4, 0xE3] ++
  [0xE1, 0xDF, 0xDD, 0xDC, 0xDA, 0xD8, 0xD6, 0xD5, 0xD3, 0xD1, 0xD0, 0xCE, 0xCD, 0xCB, 0xC9, 0xC8] ++
  [0xC6, 0xC5, 0xC3, 0xC1, 0xC0, 0xBE, 0xBD, 0xBB, 0xBA, 0xB8, 0xB7, 0xB5, 0xB4, 0xB2, 0xB1, 0xB0] ++
  [0xAE, 0xAD, 0xAB, 0xAA, 0xA9, 0xA7, 0xA6, 0xA4, 0xA3, 0xA2, 0xA0, 0x9F, 0x9E, 0x9C, 0x9B, 0x9A] ++
  [0x99, 0x97, 0x96, 0x95, 0x94, 0x92, 0x91, 0x90, 0x8F, 0x8D, 0x8C, 0x8B, 0x8A, 0x89, 0x87, 0x86] ++
  [0x85, 0x84, 0x83, 0x82, 0x81, 0x7F, 0x7E, 0x7D, 0x7C, 0x7B, 0x7A, 0x79, 0x78, 0x77, 0x75, 0x74] ++
  [0x73, 0x72, 0x71, 0x70, 0x6F, 0x6E, 0x6D, 0x6C, 0x6B, 0x6A, 0x69, 0x68, 0x67, 0x66, 0x65, 0x64] ++
  [0x63, 0x62, 0x61, 0x60, 0x5F, 0x5E, 0x5D, 0x5D, 0x5C, 0x5B, 0x5A, 0x59, 0x58, 0x57, 0x56, 0x55] ++
  [0x54, 0x53, 0x53, 0x52, 0x51, 0x50, 0x4F, 0x4E, 0x4D, 0x4D, 0x4C, 0x4B, 0x4A, 0x49, 0x48, 0x48] ++
  [0x47, 0x46, 0x45, 0x44, 0x43, 0x43, 0x42, 0x41, 0x40, 0x3F, 0x3F, 0x3E, 0x3D, 0x3C, 0x3C, 0x3B] ++
  [0x3A, 0x39, 0x39, 0x38, 0x37, 0x36, 0x36, 0x35, 0x34, 0x33, 0x33, 0x32, 0x31, 0x31, 0x30, 0x2F] ++
  [0x2E, 0x2E, 0x2D, 0x2C, 0x2C, 0x2B, 0x2A, 0x2A, 0x29, 0x28, 0x28, 0x27, 0x26, 0x26, 0x25, 0x24] ++
  [0x24, 0x23, 0x22, 0x22, 0x21, 0x20, 0x20, 0x1F, 0x1E, 0x1E, 0x1D, 0x1D, 0x1C, 0x1B, 0x1B, 0x1A] ++
  [0x19, 0x19, 0x18, 0x18, 0x17, 0x16, 0x16, 0x15, 0x15, 0x14, 0x14, 0x13, 0x12, 0x12, 0x11, 0x11] ++
  [0x10, 0x0F, 0x0F, 0x0E, 0x0E, 0x0D, 0x0D, 0x0C, 0x0C, 0x0B, 0x0A, 0x0A, 0x09, 0x09, 0x08, 0x08] ++
  [0x07, 0x07, 0x06, 0x06, 0x05, 0x05, 0x04, 0x04, 0x03, 0x03, 0x02, 0x02, 0x01, 0x01, 0x00, 0x00] ++
  [0x00]

/-- `UNR[i]` (41_divider R102); `i` is at most 256 in every use (R103). -/
def unr (i : Nat) : Nat := (unrTable.getD i 0).toNat

/-- `recipUNR(d)` for a normalised divisor `d` in [0x8000, 0xffff]: the table's estimate and one refinement step
(41_divider R103). Every subtraction is of a smaller number. -/
def recipUNR (d : Nat) : Nat :=
  let u := unr ((d - 0x7FC0) / 128) + 0x101
  let t := (0x2000080 - d * u) / 256
  (0x80 + t * u) / 256

/-- The quotient of an overflowing divide, with the flag it raises (41_divider R104, R106). -/
def divideOverflow : Nat × FlagSet := (0x1ffff, FlagBit.divOvf.mask)

/-- `divideUNR(lhs, rhs)`: the quotient and the flag bits raised, with both overflow exits; `rhs` = 0 is the first
of them for every `lhs` (41_divider R104, R108). -/
def divideUNR (lhs rhs : BitVec 16) : Nat × FlagSet :=
  if 2 * rhs.toNat ≤ lhs.toNat then divideOverflow
  else
    let z := clz16 rhs
    let n := lhs.toNat * 2 ^ z
    let d := rhs.toNat * 2 ^ z
    let q := (n * recipUNR d + 0x8000) / 65536
    if q > 0x1ffff then divideOverflow else (q, noFlags)

/-- `divide(lhs, rhs)`: the exact quotient rounded to nearest, with the same overflow policy (41_divider R106). No
command uses it; it is the reference of R105 and R107. -/
def divide (lhs rhs : BitVec 16) : Nat × FlagSet :=
  if 2 * rhs.toNat ≤ lhs.toNat then divideOverflow
  else
    let q := (lhs.toNat * 0x20000 / rhs.toNat + 1) / 2
    if q > 0x1ffff then divideOverflow else (q, noFlags)

end Sys2Proof.Machine
end

