-- ==== Sys2Proof/Machine/Ops.lean ====
section
/-! DEFINITION. The operations every command is built from (40_primitives R80 to R95): the shifts, the MAC and IR
writers, the ordering value, the FIFO pushes, and the shared three-lane steps. Commands mutate the register file
only through these (R41). The core has no exception to take and none to return from (60_exceptions R165, R169,
R170), so no such operation stands here. -/

namespace Sys2Proof.Machine

/-- `v >> 12`: the floor shift by 12 (00_scope R45, 40_primitives R80). -/
def shr12 (v : Int) : Int := v / 4096

/-- `v >> 16`: the floor shift by 16 (00_scope R45, 40_primitives R80). -/
def shr16 (v : Int) : Int := v / 65536

/-- `v >> 4`: the floor shift by 4 (00_scope R45, 40_primitives R80). -/
def shr4 (v : Int) : Int := v / 16

/-- `v << 12`, exact (00_scope R45). -/
def shl12 (v : Int) : Int := v * 4096

/-- `v << 16`, exact (00_scope R45). -/
def shl16 (v : Int) : Int := v * 65536

/-- `v << 4`, exact (00_scope R45). -/
def shl4 (v : Int) : Int := v * 16

/-- The shift that `sf` selects: `v >> 12` when it is set, else `v` (40_primitives R85). -/
def sfShift (sf : Bool) (v : Int) : Int := if sf then shr12 v else v

/-- `setMac(0, value)`: test the 32-bit range, store the low 32 bits. The value it returns to its caller is
`value` itself, un-truncated and never shifted (40_primitives R84). -/
def setMac0 (value : Int) (s : State) : State :=
  (raise (check32 value) s).withMac0 (BitVec.ofInt 32 value)

/-- `setMac(i, value)` for `i` in 1, 2, 3: test the 44-bit range of the unshifted value, shift by 12 if `SF` is set,
store the low 32 bits. The value it returns to its caller is `sfShift SF value`, un-truncated (40_primitives R85). -/
def setMac (i : Lane) (value : Int) (s : State) : State :=
  (raise (check44 value (macPosBit i) (macNegBit i)) s).withMac
    (s.mac.set i (BitVec.ofInt 32 (sfShift s.sf value)))

/-- `setIr(0, value, lm)`: shift by 12 and clamp to [0, 0x1000]; `lm` is ignored (40_primitives R86). -/
def setIr0 (value : Int) (s : State) : State :=
  let c := clip (shr12 value) 0x1000 0 FlagBit.ir0Sat.mask
  (raise c.2 s).withIr0 (BitVec.ofInt 16 c.1)

/-- The lower bound of `IR[1..3]`: 0 with `lm`, else -0x8000 (40_primitives R87). -/
def irMin (lm : Bool) : Int := if lm then 0 else -0x8000

/-- `setIr(i, value, lm)` for `i` in 1, 2, 3: clamp to [0, 0x7fff] or [-0x8000, 0x7fff] (40_primitives R87). -/
def setIr (i : Lane) (value : Int) (lm : Bool) (s : State) : State :=
  let c := clip value 0x7fff (irMin lm) (irSatBit i).mask
  (raise c.2 s).withIr (s.ir.set i (BitVec.ofInt 16 c.1))

/-- `setMacAndIr(0, value, lm)`, `lm` being unused for index 0 (40_primitives R92). -/
def setMacAndIr0 (value : Int) (s : State) : State := setIr0 value (setMac0 value s)

/-- `setMacAndIr(i, value, lm)` for `i` in 1, 2, 3: the clamp sees the un-truncated value that `setMac` returns
(40_primitives R92). -/
def setMacAndIr (i : Lane) (value : Int) (lm : Bool) (s : State) : State :=
  setIr i (sfShift s.sf value) lm (setMac i value s)

/-- `setOtz(value)`: shift by 12 and clamp to [0, 0xffff] (40_primitives R88). -/
def setOtz (value : Int) (s : State) : State :=
  let c := clip (shr12 value) 0xffff 0 FlagBit.sz3OtzSat.mask
  (raise c.2 s).withOtz (BitVec.ofInt 16 c.1)

/-- Push on a three-entry FIFO: the oldest entry is discarded (40_primitives, section 4). -/
def pushFifo3 {α : Type} (q : Fifo3 α) (a : α) : Fifo3 α := ⟨q.e1, q.e2, a⟩

/-- Push on a four-entry FIFO: the oldest entry is discarded (40_primitives, section 4). -/
def pushFifo4 {α : Type} (q : Fifo4 α) (a : α) : Fifo4 α := ⟨q.e1, q.e2, q.e3, a⟩

/-- `pushScreenXY(x, y)`: both clamped to [-0x400, 0x3ff], each with its own flag (40_primitives R89). -/
def pushScreenXY (x y : Int) (s : State) : State :=
  let cx := clip x 0x3ff (-0x400) FlagBit.sx2Sat.mask
  let cy := clip y 0x3ff (-0x400) FlagBit.sy2Sat.mask
  (raise (cx.2 ||| cy.2) s).withSxy (pushFifo3 s.sxy ⟨BitVec.ofInt 16 cx.1, BitVec.ofInt 16 cy.1⟩)

/-- `pushScreenZ(z)`: clamped to [0, 0xffff] (40_primitives R90). -/
def pushScreenZ (z : Int) (s : State) : State :=
  let c := clip z 0xffff 0 FlagBit.sz3OtzSat.mask
  (raise c.2 s).withSz (pushFifo4 s.sz (BitVec.ofInt 16 c.1))

/-- A colour channel made from a stored accumulator: shifted by 4 and clamped to [0, 0xff] (40_primitives R91). -/
def colorChannel (mac : BitVec 32) (b : FlagBit) : Int × FlagSet := clip (shr4 mac.toInt) 0xff 0 b.mask

/-- `pushColor()`: the colour is made from the stored `MAC[1..3]`, its code byte is `RGBC.code`
(40_primitives R91). -/
def pushColor (s : State) : State :=
  let r := colorChannel s.mac.x .colorRSat
  let g := colorChannel s.mac.y .colorGSat
  let b := colorChannel s.mac.z .colorBSat
  (raise (r.2 ||| g.2 ||| b.2) s).withRgb
    (pushFifo3 s.rgb ⟨BitVec.ofInt 8 r.1, BitVec.ofInt 8 g.1, BitVec.ofInt 8 b.1, s.rgbc.code⟩)

/-- The exact product of a matrix row and a vector (40_primitives R80, R93). -/
def dot (row v : Vec3 Int) : Int := row.x * v.x + row.y * v.y + row.z * v.z

/-- One lane's sum of `mulMatVec`: the translation shifted by 12 plus the row's product (40_primitives R93). -/
def laneSum (m : Mat3 Int) (v t : Vec3 Int) (i : Lane) : Int := shl12 (t.get i) + dot (m.row i) v

/-- `mulMatVec(M, v, t, lm)`: the three lanes in order; `M`, `v` and `t` are values, so a lane's write does not
feed back into the products (40_primitives R93, decision D30). -/
def mulMatVec (m : Mat3 Int) (v t : Vec3 Int) (lm : Bool) (s : State) : State :=
  setMacAndIr .three (laneSum m v t .three) lm
    (setMacAndIr .two (laneSum m v t .two) lm
      (setMacAndIr .one (laneSum m v t .one) lm s))

/-- A three-lane step that writes `setMacAndIr(i, c_i, lm)` for a triple of values. -/
def setTriple (c : Vec3 Int) (lm : Bool) (s : State) : State :=
  setMacAndIr .three c.z lm (setMacAndIr .two c.y lm (setMacAndIr .one c.x lm s))

/-- The first half of `interpolate`: the far colour shifted by 12 minus the source, `lm` forced to 0
(40_primitives R94, decision D24). -/
def interpolateDifference (c : Vec3 Int) (s : State) : State :=
  setTriple ⟨shl12 s.ctrl.fc.x.toInt - c.x, shl12 s.ctrl.fc.y.toInt - c.y, shl12 s.ctrl.fc.z.toInt - c.z⟩ false s

/-- The second half of `interpolate`: the source plus `IR[0]` times the difference held in `IR[i]`
(40_primitives R94). -/
def interpolateBlend (c : Vec3 Int) (lm : Bool) (s : State) : State :=
  setTriple
    ⟨c.x + s.ir0.toInt * s.ir.x.toInt, c.y + s.ir0.toInt * s.ir.y.toInt, c.z + s.ir0.toInt * s.ir.z.toInt⟩ lm s

/-- `interpolate(c, lm)`: blend `c` toward the far colour by the factor `IR[0]` (40_primitives R94). -/
def interpolate (c : Vec3 Int) (lm : Bool) (s : State) : State :=
  interpolateBlend c lm (interpolateDifference c s)

end Sys2Proof.Machine
end

