-- ==== Sys2Proof/Machine/Operands.lean ====
section
/-! DEFINITION. The operand forms: registers read as signed or unsigned integers, vertices, and the matrix, vector
and translation selections of `mvmva` (45_general R149, R150). -/

namespace Sys2Proof.Machine

/-- A triple of signed registers read as integers (40_primitives R80). -/
def Vec3.signed {w : Nat} (v : Vec3 (BitVec w)) : Vec3 Int := ⟨v.x.toInt, v.y.toInt, v.z.toInt⟩

/-- A matrix of signed coefficients read as integers (10_state R22). -/
def Mat3.signed {w : Nat} (m : Mat3 (BitVec w)) : Mat3 Int := ⟨Vec3.signed m.r1, Vec3.signed m.r2, Vec3.signed m.r3⟩

/-- An unsigned register read as an integer (40_primitives R80). -/
def unsigned {w : Nat} (x : BitVec w) : Int := (x.toNat : Int)

/-- The triple of integers 0. -/
def zeroTriple : Vec3 Int := ⟨0, 0, 0⟩

/-- The input vector `V[n]` (10_state R12). -/
def State.vertex (s : State) : Vertex → Vec3 (BitVec 16)
  | .v0 => s.v.v0
  | .v1 => s.v.v1
  | .v2 => s.v.v2

/-- The coefficient `a` of the "buggy fixed matrix": 0x60 or `RGBC.r << 4` according to the open parameter
`MX3_CONST60` (45_general R150, 00_scope R10; DESIGN CHOICE, log 5: the parameter is read from State). -/
def buggyCoefficient (s : State) : Int := if s.mx3Const60 then 0x60 else shl4 (unsigned s.rgbc.r)

/-- The matrix of `mx` = 3, a fixed wiring of other registers (45_general R150). -/
def buggyMatrix (s : State) : Mat3 Int :=
  let a := buggyCoefficient s
  let rt13 := s.ctrl.rt.r1.z.toInt
  let rt22 := s.ctrl.rt.r2.y.toInt
  ⟨⟨-a, a, s.ir0.toInt⟩, ⟨rt13, rt13, rt13⟩, ⟨rt22, rt22, rt22⟩⟩

/-- `selectMatrix(mx)` (45_general R149, R150). -/
def selectMatrix (mx : MatrixSel) (s : State) : Mat3 Int :=
  match mx with
  | .rt => Mat3.signed s.ctrl.rt
  | .llm => Mat3.signed s.ctrl.llm
  | .lcm => Mat3.signed s.ctrl.lcm
  | .buggy => buggyMatrix s

/-- `selectVector(vx)`, values at entry to the command (45_general R149). -/
def selectVector (vx : VectorSel) (s : State) : Vec3 Int :=
  match vx with
  | .v0 => Vec3.signed s.v.v0
  | .v1 => Vec3.signed s.v.v1
  | .v2 => Vec3.signed s.v.v2
  | .ir => Vec3.signed s.ir

/-- `selectTranslation(tx)` (45_general R149). -/
def selectTranslation (tx : TranslationSel) (s : State) : Vec3 Int :=
  match tx with
  | .tr => Vec3.signed s.ctrl.tr
  | .bk => Vec3.signed s.ctrl.bk
  | .fc => Vec3.signed s.ctrl.fc
  | .zero => zeroTriple

end Sys2Proof.Machine
end

