-- ==== Sys2Proof/Machine/Geometry.lean ====
section
/-! DEFINITION. The geometry commands: nclip, rtps, rtpt, avsz3, avsz4 (42_geometry R110 to R116). Each meaning
first loads the latches (30_encoding R68, R71), then runs the command's body. -/

namespace Sys2Proof.Machine

/-- Dispatch of a legal command loads the latches before the command's first step (30_encoding R68, R71). -/
def loadLatches (sf lm : Bool) (s : State) : State := s.withLatches sf lm

/-- Twice the signed area of the screen triangle (42_geometry R111). -/
def nclipSum (q : Fifo3 ScreenXY) : Int :=
  q.e0.x.toInt * q.e1.y.toInt + q.e1.x.toInt * q.e2.y.toInt + q.e2.x.toInt * q.e0.y.toInt
    - q.e0.x.toInt * q.e2.y.toInt - q.e1.x.toInt * q.e0.y.toInt - q.e2.x.toInt * q.e1.y.toInt

/-- The body `nclip()` (42_geometry R111). -/
def nclipBody (s : State) : State := setMac0 (nclipSum s.sxy) s

/-- The three transformed sums s1, s2, s3 of `rtps(n)` (42_geometry R112). -/
def rtpsSum (n : Vertex) (s : State) (i : Lane) : Int :=
  laneSum (Mat3.signed s.ctrl.rt) (Vec3.signed (s.vertex n)) (Vec3.signed s.ctrl.tr) i

/-- Lane 3's `IR[3]` in `rtps(n)`: the ordinary `setIr` for `sf` = 1; for `sf` = 0 the quirk, a clamp that raises
nothing and a separate test of `s3 >> 12` that looks neither at `lm` nor at `IR[3]` (42_geometry R112 step 4,
decision D19). -/
def rtpsIr3 (s3 : Int) (lm : Bool) (s : State) : State :=
  if s.sf then setIr .three (shr12 s3) lm s
  else
    (raise (clip (shr12 s3) 0x7fff (-0x8000) FlagBit.ir3Sat.mask).2 s).withIr
      (s.ir.set .three (BitVec.ofInt 16 (clip s3 0x7fff (irMin lm) noFlags).1))

/-- The first part of `rtps(n)`: rotate, translate and push the projected Z (42_geometry R112 steps 1 to 5). -/
def rtpsTransform (n : Vertex) (lm : Bool) (s : State) : State :=
  let s1 := rtpsSum n s .one
  let s2 := rtpsSum n s .two
  let s3 := rtpsSum n s .three
  pushScreenZ (shr12 s3)
    (rtpsIr3 s3 lm (setMac .three s3 (setMacAndIr .two s2 lm (setMacAndIr .one s1 lm s))))

/-- Screen X and Y of `rtps(n)`: each sum passes through `setMac(0, ..)` and its un-truncated value shifted by 16
is pushed, both at once (42_geometry R112 step 7). -/
def rtpsScreen (q : Int) (s : State) : State :=
  let x := q * s.ir.x.toInt + s.ctrl.ofx.toInt
  let y := q * s.ir.y.toInt + s.ctrl.ofy.toInt
  pushScreenXY (shr16 x) (shr16 y) (setMac0 y (setMac0 x s))

/-- The depth-cue step of `rtps(n)` (42_geometry R112 step 9). -/
def rtpsDepthCue (q : Int) (s : State) : State :=
  setMacAndIr0 (q * s.ctrl.dqa.toInt + s.ctrl.dqb.toInt) s

/-- The second part of `rtps(n)`: the perspective divide by the `SZ[3]` just pushed, the screen point and the depth
cue (42_geometry R112 steps 6 to 9). -/
def rtpsProject (s : State) : State :=
  let d := divideUNR s.ctrl.h s.sz.e3
  rtpsDepthCue d.1 (rtpsScreen d.1 (raise d.2 s))

/-- The body `rtps(n)` (42_geometry R112). -/
def rtpsBody (n : Vertex) (lm : Bool) (s : State) : State := rtpsProject (rtpsTransform n lm s)

/-- The weighted sum of `avsz3`: the three newest screen Z, `SZ[0]` unused (42_geometry R114). -/
def avsz3Sum (s : State) : Int :=
  s.ctrl.zsf3.toInt * (unsigned s.sz.e1 + unsigned s.sz.e2 + unsigned s.sz.e3)

/-- The weighted sum of `avsz4` (42_geometry R115). -/
def avsz4Sum (s : State) : Int :=
  s.ctrl.zsf4.toInt * (unsigned s.sz.e0 + unsigned s.sz.e1 + unsigned s.sz.e2 + unsigned s.sz.e3)

/-- The shared end of `avsz3` and `avsz4`: `setMac(0, v)` then `setOtz` of the value it returns, the un-truncated
`v` (42_geometry R114, R115). -/
def averageZ (v : Int) (s : State) : State := setOtz v (setMac0 v s)

/-- The body `avsz3()` (42_geometry R114). -/
def avsz3Body (s : State) : State := averageZ (avsz3Sum s) s

/-- The body `avsz4()` (42_geometry R115). -/
def avsz4Body (s : State) : State := averageZ (avsz4Sum s) s

/-- `nclip` (42_geometry R111). -/
def execNclip (sf lm : Bool) (s : State) : Host.Outcome State Fault Refusal :=
  .next (nclipBody (loadLatches sf lm s))

/-- `rtps`: the body on vertex 0 (42_geometry R112). -/
def execRtps (sf lm : Bool) (s : State) : Host.Outcome State Fault Refusal :=
  .next (rtpsBody .v0 lm (loadLatches sf lm s))

/-- `rtpt`: the whole body on vertices 0, 1, 2, each run seeing the state the previous one left
(42_geometry R113, decision D21). -/
def execRtpt (sf lm : Bool) (s : State) : Host.Outcome State Fault Refusal :=
  .next (rtpsBody .v2 lm (rtpsBody .v1 lm (rtpsBody .v0 lm (loadLatches sf lm s))))

/-- `avsz3` (42_geometry R114). -/
def execAvsz3 (sf lm : Bool) (s : State) : Host.Outcome State Fault Refusal :=
  .next (avsz3Body (loadLatches sf lm s))

/-- `avsz4` (42_geometry R115). -/
def execAvsz4 (sf lm : Bool) (s : State) : Host.Outcome State Fault Refusal :=
  .next (avsz4Body (loadLatches sf lm s))

end Sys2Proof.Machine
end

