-- ==== Sys2Proof/Machine/Lighting.lean ====
section
/-! DEFINITION. The lighting commands: ncs, nct, nccs, ncct, ncds, ncdt, cc, cdp, as sequences of stages that
communicate through `IR[1..3]`, each followed by one colour push (43_lighting R120 to R133). -/

namespace Sys2Proof.Machine

/-- Light-vector stage `lightVector(n)` (43_lighting R121). -/
def lightVector (n : Vertex) (lm : Bool) (s : State) : State :=
  mulMatVec (Mat3.signed s.ctrl.llm) (Vec3.signed (s.vertex n)) zeroTriple lm s

/-- Light-colour stage `lightColour()`, on the `IR[1..3]` present at entry (43_lighting R128). -/
def lightColour (lm : Bool) (s : State) : State :=
  mulMatVec (Mat3.signed s.ctrl.lcm) (Vec3.signed s.ir) (Vec3.signed s.ctrl.bk) lm s

/-- The product of the input colour, `<< 4`, and the current `IR[1..3]` (43_lighting R131, R132; 44_depthcue R138). -/
def litColour (s : State) : Vec3 Int :=
  ⟨shl4 (unsigned s.rgbc.r) * s.ir.x.toInt, shl4 (unsigned s.rgbc.g) * s.ir.y.toInt,
    shl4 (unsigned s.rgbc.b) * s.ir.z.toInt⟩

/-- Modulate stage `modulate()` (43_lighting R131). -/
def modulate (lm : Bool) (s : State) : State := setTriple (litColour s) lm s

/-- Depth cue of the lit colour `cueLit()`: the products are formed from the `IR[1..3]` at entry and are not
themselves written (43_lighting R132). -/
def cueLit (lm : Bool) (s : State) : State := interpolate (litColour s) lm s

/-- The body `ncs(n)` (43_lighting R122). -/
def ncsBody (n : Vertex) (lm : Bool) (s : State) : State :=
  pushColor (lightColour lm (lightVector n lm s))

/-- The body `nccs(n)` (43_lighting R124). -/
def nccsBody (n : Vertex) (lm : Bool) (s : State) : State :=
  pushColor (modulate lm (lightColour lm (lightVector n lm s)))

/-- The body `ncds(n)` (43_lighting R126). -/
def ncdsBody (n : Vertex) (lm : Bool) (s : State) : State :=
  pushColor (cueLit lm (lightColour lm (lightVector n lm s)))

/-- The body `cc()` (43_lighting R129). -/
def ccBody (lm : Bool) (s : State) : State := pushColor (modulate lm (lightColour lm s))

/-- The body `cdp()` (43_lighting R130). -/
def cdpBody (lm : Bool) (s : State) : State := pushColor (cueLit lm (lightColour lm s))

/-- `ncs` (43_lighting R122). -/
def execNcs (sf lm : Bool) (s : State) : Host.Outcome State Fault Refusal :=
  .next (ncsBody .v0 lm (loadLatches sf lm s))

/-- `nct`: the body of `ncs` on vertices 0, 1, 2 (43_lighting R123). -/
def execNct (sf lm : Bool) (s : State) : Host.Outcome State Fault Refusal :=
  .next (ncsBody .v2 lm (ncsBody .v1 lm (ncsBody .v0 lm (loadLatches sf lm s))))

/-- `nccs` (43_lighting R124). -/
def execNccs (sf lm : Bool) (s : State) : Host.Outcome State Fault Refusal :=
  .next (nccsBody .v0 lm (loadLatches sf lm s))

/-- `ncct`: the body of `nccs` on vertices 0, 1, 2 (43_lighting R125). -/
def execNcct (sf lm : Bool) (s : State) : Host.Outcome State Fault Refusal :=
  .next (nccsBody .v2 lm (nccsBody .v1 lm (nccsBody .v0 lm (loadLatches sf lm s))))

/-- `ncds` (43_lighting R126). -/
def execNcds (sf lm : Bool) (s : State) : Host.Outcome State Fault Refusal :=
  .next (ncdsBody .v0 lm (loadLatches sf lm s))

/-- `ncdt`: the body of `ncds` on vertices 0, 1, 2 (43_lighting R127). -/
def execNcdt (sf lm : Bool) (s : State) : Host.Outcome State Fault Refusal :=
  .next (ncdsBody .v2 lm (ncdsBody .v1 lm (ncdsBody .v0 lm (loadLatches sf lm s))))

/-- `cc` (43_lighting R129). -/
def execCc (sf lm : Bool) (s : State) : Host.Outcome State Fault Refusal :=
  .next (ccBody lm (loadLatches sf lm s))

/-- `cdp` (43_lighting R130). -/
def execCdp (sf lm : Bool) (s : State) : Host.Outcome State Fault Refusal :=
  .next (cdpBody lm (loadLatches sf lm s))

end Sys2Proof.Machine
end

