-- ==== Sys2Proof/Machine/DepthCue.lean ====
section
/-! DEFINITION. The depth-cue commands: dpcs, dpct, dcpl, intpl, each one `interpolate` on its own source and one
colour push (44_depthcue R135 to R139). -/

namespace Sys2Proof.Machine

/-- A colour as the source triple of `dpcs`: each channel `<< 16` (44_depthcue R136). -/
def colourSource (c : Color) : Vec3 Int := ⟨shl16 (unsigned c.r), shl16 (unsigned c.g), shl16 (unsigned c.b)⟩

/-- The body `dpcs(useFifo)`: the source is `RGB[0]` or `RGBC` (44_depthcue R136). -/
def dpcsBody (useFifo : Bool) (lm : Bool) (s : State) : State :=
  let src := if useFifo then s.rgb.e0 else s.rgbc
  pushColor (interpolate (colourSource src) lm s)

/-- The body `dcpl()` (44_depthcue R138). -/
def dcplBody (lm : Bool) (s : State) : State := pushColor (interpolate (litColour s) lm s)

/-- The source triple of `intpl`: `IR[1..3]` at entry, `<< 12` (44_depthcue R139). -/
def irSource (s : State) : Vec3 Int := ⟨shl12 s.ir.x.toInt, shl12 s.ir.y.toInt, shl12 s.ir.z.toInt⟩

/-- The body `intpl()` (44_depthcue R139). -/
def intplBody (lm : Bool) (s : State) : State := pushColor (interpolate (irSource s) lm s)

/-- `dpcs` (44_depthcue R136). -/
def execDpcs (sf lm : Bool) (s : State) : Host.Outcome State Fault Refusal :=
  .next (dpcsBody false lm (loadLatches sf lm s))

/-- `dpct`: three runs that each read `RGB[0]`, the three FIFO colours oldest first (44_depthcue R137). -/
def execDpct (sf lm : Bool) (s : State) : Host.Outcome State Fault Refusal :=
  .next (dpcsBody true lm (dpcsBody true lm (dpcsBody true lm (loadLatches sf lm s))))

/-- `dcpl` (44_depthcue R138). -/
def execDcpl (sf lm : Bool) (s : State) : Host.Outcome State Fault Refusal :=
  .next (dcplBody lm (loadLatches sf lm s))

/-- `intpl` (44_depthcue R139). -/
def execIntpl (sf lm : Bool) (s : State) : Host.Outcome State Fault Refusal :=
  .next (intplBody lm (loadLatches sf lm s))

end Sys2Proof.Machine
end

