-- ==== Sys2Proof/Machine/General.lean ====
section
/-! DEFINITION. The general-purpose commands: mvmva, gpf, gpl, sqr, op (45_general R145 to R156). Each reads all
its `IR` inputs before writing any (R145, decision D30). -/

namespace Sys2Proof.Machine

/-- The flag step of the `tx` = 2 path: the far colour plus the first column's products, `lm` forced to 0
(45_general R151, decision D23). -/
def farColourFlagStep (m : Mat3 Int) (v : Vec3 Int) (s : State) : State :=
  setTriple
    ⟨shl12 s.ctrl.fc.x.toInt + m.r1.x * v.x, shl12 s.ctrl.fc.y.toInt + m.r2.x * v.x,
      shl12 s.ctrl.fc.z.toInt + m.r3.x * v.x⟩ false s

/-- The value step of the `tx` = 2 path: the other two columns only (45_general R151). -/
def farColourValueStep (m : Mat3 Int) (v : Vec3 Int) (lm : Bool) (s : State) : State :=
  setTriple ⟨m.r1.y * v.y + m.r1.z * v.z, m.r2.y * v.y + m.r2.z * v.z, m.r3.y * v.y + m.r3.z * v.z⟩ lm s

/-- `mvmvaFarColour(M, v)`: two separate steps, of which only the flags of the first survive (45_general R151). -/
def mvmvaFarColour (m : Mat3 Int) (v : Vec3 Int) (lm : Bool) (s : State) : State :=
  farColourValueStep m v lm (farColourFlagStep m v s)

/-- The body `mvmva(mx, vx, tx)`: the operands are selected from the state at entry (45_general R148, R149). -/
def mvmvaBody (mx : MatrixSel) (vx : VectorSel) (tx : TranslationSel) (lm : Bool) (s : State) : State :=
  let m := selectMatrix mx s
  let v := selectVector vx s
  match tx with
  | .fc => mvmvaFarColour m v lm s
  | .tr | .bk | .zero => mulMatVec m v (selectTranslation tx s) lm s

/-- The body `gpf()` (45_general R153). -/
def gpfBody (lm : Bool) (s : State) : State :=
  pushColor (setTriple
    ⟨s.ir0.toInt * s.ir.x.toInt, s.ir0.toInt * s.ir.y.toInt, s.ir0.toInt * s.ir.z.toInt⟩ lm s)

/-- The accumulate operand of `gpl`: the stored `MAC[i]`, `<< 12` only when `sf` is set (45_general R154). -/
def gplOperand (sf : Bool) (mac : BitVec 32) : Int := if sf then shl12 mac.toInt else mac.toInt

/-- The body `gpl()` (45_general R154). -/
def gplBody (lm : Bool) (s : State) : State :=
  pushColor (setTriple
    ⟨gplOperand s.sf s.mac.x + s.ir0.toInt * s.ir.x.toInt, gplOperand s.sf s.mac.y + s.ir0.toInt * s.ir.y.toInt,
      gplOperand s.sf s.mac.z + s.ir0.toInt * s.ir.z.toInt⟩ lm s)

/-- The body `sqr()` (45_general R155). -/
def sqrBody (lm : Bool) (s : State) : State :=
  setTriple ⟨s.ir.x.toInt * s.ir.x.toInt, s.ir.y.toInt * s.ir.y.toInt, s.ir.z.toInt * s.ir.z.toInt⟩ lm s

/-- The cross product of the rotation diagonal D and a vector, D first (45_general R156). -/
def crossDiagonal (d v : Vec3 Int) : Vec3 Int :=
  ⟨v.z * d.y - v.y * d.z, v.x * d.z - v.z * d.x, v.y * d.x - v.x * d.y⟩

/-- The diagonal of the rotation matrix (45_general R156). -/
def rotationDiagonal (s : State) : Vec3 Int :=
  ⟨s.ctrl.rt.r1.x.toInt, s.ctrl.rt.r2.y.toInt, s.ctrl.rt.r3.z.toInt⟩

/-- The body `op()`, on copies of `IR[1..3]` taken before any write (45_general R156). -/
def opBody (lm : Bool) (s : State) : State :=
  setTriple (crossDiagonal (rotationDiagonal s) (Vec3.signed s.ir)) lm s

/-- `mvmva` (45_general R148). -/
def execMvmva (sf lm : Bool) (mx : MatrixSel) (vx : VectorSel) (tx : TranslationSel) (s : State) :
    Host.Outcome State Fault Refusal :=
  .next (mvmvaBody mx vx tx lm (loadLatches sf lm s))

/-- `gpf` (45_general R153). -/
def execGpf (sf lm : Bool) (s : State) : Host.Outcome State Fault Refusal :=
  .next (gpfBody lm (loadLatches sf lm s))

/-- `gpl` (45_general R154). -/
def execGpl (sf lm : Bool) (s : State) : Host.Outcome State Fault Refusal :=
  .next (gplBody lm (loadLatches sf lm s))

/-- `sqr` (45_general R155). -/
def execSqr (sf lm : Bool) (s : State) : Host.Outcome State Fault Refusal :=
  .next (sqrBody lm (loadLatches sf lm s))

/-- `op` (45_general R156). -/
def execOp (sf lm : Bool) (s : State) : Host.Outcome State Fault Refusal :=
  .next (opBody lm (loadLatches sf lm s))

end Sys2Proof.Machine
end

