-- ==== Sys2Proof/Machine/Dispatch.lean ====
section
/-! DEFINITION. The dispatcher: one arm per command, each one call of the command's meaning (30_encoding R71). -/

namespace Sys2Proof.Machine

def exec (i : Instr) (s : State) : Host.Outcome State Fault Refusal :=
  match i with
  | .rtps sf lm => Sys2Proof.Machine.execRtps sf lm s
  | .nclip sf lm => Sys2Proof.Machine.execNclip sf lm s
  | .op sf lm => Sys2Proof.Machine.execOp sf lm s
  | .dpcs sf lm => Sys2Proof.Machine.execDpcs sf lm s
  | .intpl sf lm => Sys2Proof.Machine.execIntpl sf lm s
  | .mvmva sf lm mx vx tx => Sys2Proof.Machine.execMvmva sf lm mx vx tx s
  | .ncds sf lm => Sys2Proof.Machine.execNcds sf lm s
  | .cdp sf lm => Sys2Proof.Machine.execCdp sf lm s
  | .ncdt sf lm => Sys2Proof.Machine.execNcdt sf lm s
  | .nccs sf lm => Sys2Proof.Machine.execNccs sf lm s
  | .cc sf lm => Sys2Proof.Machine.execCc sf lm s
  | .ncs sf lm => Sys2Proof.Machine.execNcs sf lm s
  | .nct sf lm => Sys2Proof.Machine.execNct sf lm s
  | .sqr sf lm => Sys2Proof.Machine.execSqr sf lm s
  | .dcpl sf lm => Sys2Proof.Machine.execDcpl sf lm s
  | .dpct sf lm => Sys2Proof.Machine.execDpct sf lm s
  | .avsz3 sf lm => Sys2Proof.Machine.execAvsz3 sf lm s
  | .avsz4 sf lm => Sys2Proof.Machine.execAvsz4 sf lm s
  | .rtpt sf lm => Sys2Proof.Machine.execRtpt sf lm s
  | .gpf sf lm => Sys2Proof.Machine.execGpf sf lm s
  | .gpl sf lm => Sys2Proof.Machine.execGpl sf lm s
  | .ncct sf lm => Sys2Proof.Machine.execNcct sf lm s

end Sys2Proof.Machine
end

