-- ==== Sys2Proof/Machine/Port.lean ====
section
/-! DEFINITION. The register port and the host's transactions other than COMMAND: the index map (20_memory R56),
REGREAD (R53), REGWRITE (R54), CLRFLAG (60_exceptions R171), RESET (70_reset R180), and how the host issues
transactions, receives results and goes on after a refused one (00_scope R6, 60_exceptions R166). -/

namespace Sys2Proof.Machine

/-- The register word at an index; none for the reserved indices 15, 23 and 28 to 31 (20_memory R56, R57). -/
def regOfIndex (idx : BitVec 6) : Option RegName :=
  match idx.toNat with
  | 0 => some .VXY0
  | 1 => some .VZ0
  | 2 => some .VXY1
  | 3 => some .VZ1
  | 4 => some .VXY2
  | 5 => some .VZ2
  | 6 => some .RGBC
  | 7 => some .OTZ
  | 8 => some .IR0
  | 9 => some .IR1
  | 10 => some .IR2
  | 11 => some .IR3
  | 12 => some .SXY0
  | 13 => some .SXY1
  | 14 => some .SXY2
  | 16 => some .SZ0
  | 17 => some .SZ1
  | 18 => some .SZ2
  | 19 => some .SZ3
  | 20 => some .RGB0
  | 21 => some .RGB1
  | 22 => some .RGB2
  | 24 => some .MAC0
  | 25 => some .MAC1
  | 26 => some .MAC2
  | 27 => some .MAC3
  | 32 => some .RT11RT12
  | 33 => some .RT13RT21
  | 34 => some .RT22RT23
  | 35 => some .RT31RT32
  | 36 => some .RT33
  | 37 => some .TRX
  | 38 => some .TRY
  | 39 => some .TRZ
  | 40 => some .L11L12
  | 41 => some .L13L21
  | 42 => some .L22L23
  | 43 => some .L31L32
  | 44 => some .L33
  | 45 => some .RBK
  | 46 => some .GBK
  | 47 => some .BBK
  | 48 => some .LR1LR2
  | 49 => some .LR3LG1
  | 50 => some .LG2LG3
  | 51 => some .LB1LB2
  | 52 => some .LB3
  | 53 => some .RFC
  | 54 => some .GFC
  | 55 => some .BFC
  | 56 => some .OFX
  | 57 => some .OFY
  | 58 => some .H
  | 59 => some .DQA
  | 60 => some .DQB
  | 61 => some .ZSF3
  | 62 => some .ZSF4
  | 63 => some .FLAG
  | _ => none

/-- The index of a register word (20_memory R56). -/
def indexOf : RegName → BitVec 6
  | .VXY0 => 0
  | .VZ0 => 1
  | .VXY1 => 2
  | .VZ1 => 3
  | .VXY2 => 4
  | .VZ2 => 5
  | .RGBC => 6
  | .OTZ => 7
  | .IR0 => 8
  | .IR1 => 9
  | .IR2 => 10
  | .IR3 => 11
  | .SXY0 => 12
  | .SXY1 => 13
  | .SXY2 => 14
  | .SZ0 => 16
  | .SZ1 => 17
  | .SZ2 => 18
  | .SZ3 => 19
  | .RGB0 => 20
  | .RGB1 => 21
  | .RGB2 => 22
  | .MAC0 => 24
  | .MAC1 => 25
  | .MAC2 => 26
  | .MAC3 => 27
  | .RT11RT12 => 32
  | .RT13RT21 => 33
  | .RT22RT23 => 34
  | .RT31RT32 => 35
  | .RT33 => 36
  | .TRX => 37
  | .TRY => 38
  | .TRZ => 39
  | .L11L12 => 40
  | .L13L21 => 41
  | .L22L23 => 42
  | .L31L32 => 43
  | .L33 => 44
  | .RBK => 45
  | .GBK => 46
  | .BBK => 47
  | .LR1LR2 => 48
  | .LR3LG1 => 49
  | .LG2LG3 => 50
  | .LB1LB2 => 51
  | .LB3 => 52
  | .RFC => 53
  | .GFC => 54
  | .BFC => 55
  | .OFX => 56
  | .OFY => 57
  | .H => 58
  | .DQA => 59
  | .DQB => 60
  | .ZSF3 => 61
  | .ZSF4 => 62
  | .FLAG => 63

/-- A pair of 16-bit registers in one word, the first in bits 15:0 (20_memory R53, R55). -/
def pairWord (lo hi : BitVec 16) : Word := hi ++ lo

/-- A single 16-bit signed register read: sign-extended (20_memory R53). -/
def signedWord (x : BitVec 16) : Word := x.signExtend 32

/-- A single 16-bit unsigned register read: zero-extended (20_memory R53). -/
def unsignedWord (x : BitVec 16) : Word := x.setWidth 32

/-- A colour word: `r` in bits 7:0, `g` 15:8, `b` 23:16, `code` 31:24 (20_memory R55). -/
def colorWord (c : Color) : Word := c.code ++ c.b ++ c.g ++ c.r

/-- The colour a word stores (20_memory R54, R55). -/
def colorOfWord (w : Word) : Color :=
  ⟨w.extractLsb' 0 8, w.extractLsb' 8 8, w.extractLsb' 16 8, w.extractLsb' 24 8⟩

/-- `w[15:0]` (20_memory R54). -/
def lowHalf (w : Word) : BitVec 16 := w.extractLsb' 0 16

/-- `w[31:16]` (20_memory R54). -/
def highHalf (w : Word) : BitVec 16 := w.extractLsb' 16 16

/-- The word a read of a register returns; a read changes no state (20_memory R53, R56, R58). -/
def readReg (r : RegName) (s : State) : Word :=
  match r with
  | .VXY0 => pairWord s.v.v0.x s.v.v0.y
  | .VZ0 => signedWord s.v.v0.z
  | .VXY1 => pairWord s.v.v1.x s.v.v1.y
  | .VZ1 => signedWord s.v.v1.z
  | .VXY2 => pairWord s.v.v2.x s.v.v2.y
  | .VZ2 => signedWord s.v.v2.z
  | .RGBC => colorWord s.rgbc
  | .OTZ => unsignedWord s.otz
  | .IR0 => signedWord s.ir0
  | .IR1 => signedWord s.ir.x
  | .IR2 => signedWord s.ir.y
  | .IR3 => signedWord s.ir.z
  | .SXY0 => pairWord s.sxy.e0.x s.sxy.e0.y
  | .SXY1 => pairWord s.sxy.e1.x s.sxy.e1.y
  | .SXY2 => pairWord s.sxy.e2.x s.sxy.e2.y
  | .SZ0 => unsignedWord s.sz.e0
  | .SZ1 => unsignedWord s.sz.e1
  | .SZ2 => unsignedWord s.sz.e2
  | .SZ3 => unsignedWord s.sz.e3
  | .RGB0 => colorWord s.rgb.e0
  | .RGB1 => colorWord s.rgb.e1
  | .RGB2 => colorWord s.rgb.e2
  | .MAC0 => s.mac0
  | .MAC1 => s.mac.x
  | .MAC2 => s.mac.y
  | .MAC3 => s.mac.z
  | .RT11RT12 => pairWord s.ctrl.rt.r1.x s.ctrl.rt.r1.y
  | .RT13RT21 => pairWord s.ctrl.rt.r1.z s.ctrl.rt.r2.x
  | .RT22RT23 => pairWord s.ctrl.rt.r2.y s.ctrl.rt.r2.z
  | .RT31RT32 => pairWord s.ctrl.rt.r3.x s.ctrl.rt.r3.y
  | .RT33 => signedWord s.ctrl.rt.r3.z
  | .TRX => s.ctrl.tr.x
  | .TRY => s.ctrl.tr.y
  | .TRZ => s.ctrl.tr.z
  | .L11L12 => pairWord s.ctrl.llm.r1.x s.ctrl.llm.r1.y
  | .L13L21 => pairWord s.ctrl.llm.r1.z s.ctrl.llm.r2.x
  | .L22L23 => pairWord s.ctrl.llm.r2.y s.ctrl.llm.r2.z
  | .L31L32 => pairWord s.ctrl.llm.r3.x s.ctrl.llm.r3.y
  | .L33 => signedWord s.ctrl.llm.r3.z
  | .RBK => s.ctrl.bk.x
  | .GBK => s.ctrl.bk.y
  | .BBK => s.ctrl.bk.z
  | .LR1LR2 => pairWord s.ctrl.lcm.r1.x s.ctrl.lcm.r1.y
  | .LR3LG1 => pairWord s.ctrl.lcm.r1.z s.ctrl.lcm.r2.x
  | .LG2LG3 => pairWord s.ctrl.lcm.r2.y s.ctrl.lcm.r2.z
  | .LB1LB2 => pairWord s.ctrl.lcm.r3.x s.ctrl.lcm.r3.y
  | .LB3 => signedWord s.ctrl.lcm.r3.z
  | .RFC => s.ctrl.fc.x
  | .GFC => s.ctrl.fc.y
  | .BFC => s.ctrl.fc.z
  | .OFX => s.ctrl.ofx
  | .OFY => s.ctrl.ofy
  | .H => unsignedWord s.ctrl.h
  | .DQA => signedWord s.ctrl.dqa
  | .DQB => s.ctrl.dqb
  | .ZSF3 => signedWord s.ctrl.zsf3
  | .ZSF4 => signedWord s.ctrl.zsf4
  | .FLAG => flagWord s.flag

/-- The state after a write of a register: the named register or pair changes and nothing else, with no clamp, no
push and no flag (20_memory R54, R56). -/
def writeReg (r : RegName) (w : Word) (s : State) : State :=
  match r with
  | .VXY0 => s.withV { s.v with v0.x := lowHalf w, v0.y := highHalf w }
  | .VZ0 => s.withV { s.v with v0.z := lowHalf w }
  | .VXY1 => s.withV { s.v with v1.x := lowHalf w, v1.y := highHalf w }
  | .VZ1 => s.withV { s.v with v1.z := lowHalf w }
  | .VXY2 => s.withV { s.v with v2.x := lowHalf w, v2.y := highHalf w }
  | .VZ2 => s.withV { s.v with v2.z := lowHalf w }
  | .RGBC => s.withRgbc (colorOfWord w)
  | .OTZ => s.withOtz (lowHalf w)
  | .IR0 => s.withIr0 (lowHalf w)
  | .IR1 => s.withIr { s.ir with x := lowHalf w }
  | .IR2 => s.withIr { s.ir with y := lowHalf w }
  | .IR3 => s.withIr { s.ir with z := lowHalf w }
  | .SXY0 => s.withSxy { s.sxy with e0.x := lowHalf w, e0.y := highHalf w }
  | .SXY1 => s.withSxy { s.sxy with e1.x := lowHalf w, e1.y := highHalf w }
  | .SXY2 => s.withSxy { s.sxy with e2.x := lowHalf w, e2.y := highHalf w }
  | .SZ0 => s.withSz { s.sz with e0 := lowHalf w }
  | .SZ1 => s.withSz { s.sz with e1 := lowHalf w }
  | .SZ2 => s.withSz { s.sz with e2 := lowHalf w }
  | .SZ3 => s.withSz { s.sz with e3 := lowHalf w }
  | .RGB0 => s.withRgb { s.rgb with e0 := colorOfWord w }
  | .RGB1 => s.withRgb { s.rgb with e1 := colorOfWord w }
  | .RGB2 => s.withRgb { s.rgb with e2 := colorOfWord w }
  | .MAC0 => s.withMac0 w
  | .MAC1 => s.withMac { s.mac with x := w }
  | .MAC2 => s.withMac { s.mac with y := w }
  | .MAC3 => s.withMac { s.mac with z := w }
  | .RT11RT12 => s.withCtrl { s.ctrl with rt.r1.x := lowHalf w, rt.r1.y := highHalf w }
  | .RT13RT21 => s.withCtrl { s.ctrl with rt.r1.z := lowHalf w, rt.r2.x := highHalf w }
  | .RT22RT23 => s.withCtrl { s.ctrl with rt.r2.y := lowHalf w, rt.r2.z := highHalf w }
  | .RT31RT32 => s.withCtrl { s.ctrl with rt.r3.x := lowHalf w, rt.r3.y := highHalf w }
  | .RT33 => s.withCtrl { s.ctrl with rt.r3.z := lowHalf w }
  | .TRX => s.withCtrl { s.ctrl with tr.x := w }
  | .TRY => s.withCtrl { s.ctrl with tr.y := w }
  | .TRZ => s.withCtrl { s.ctrl with tr.z := w }
  | .L11L12 => s.withCtrl { s.ctrl with llm.r1.x := lowHalf w, llm.r1.y := highHalf w }
  | .L13L21 => s.withCtrl { s.ctrl with llm.r1.z := lowHalf w, llm.r2.x := highHalf w }
  | .L22L23 => s.withCtrl { s.ctrl with llm.r2.y := lowHalf w, llm.r2.z := highHalf w }
  | .L31L32 => s.withCtrl { s.ctrl with llm.r3.x := lowHalf w, llm.r3.y := highHalf w }
  | .L33 => s.withCtrl { s.ctrl with llm.r3.z := lowHalf w }
  | .RBK => s.withCtrl { s.ctrl with bk.x := w }
  | .GBK => s.withCtrl { s.ctrl with bk.y := w }
  | .BBK => s.withCtrl { s.ctrl with bk.z := w }
  | .LR1LR2 => s.withCtrl { s.ctrl with lcm.r1.x := lowHalf w, lcm.r1.y := highHalf w }
  | .LR3LG1 => s.withCtrl { s.ctrl with lcm.r1.z := lowHalf w, lcm.r2.x := highHalf w }
  | .LG2LG3 => s.withCtrl { s.ctrl with lcm.r2.y := lowHalf w, lcm.r2.z := highHalf w }
  | .LB1LB2 => s.withCtrl { s.ctrl with lcm.r3.x := lowHalf w, lcm.r3.y := highHalf w }
  | .LB3 => s.withCtrl { s.ctrl with lcm.r3.z := lowHalf w }
  | .RFC => s.withCtrl { s.ctrl with fc.x := w }
  | .GFC => s.withCtrl { s.ctrl with fc.y := w }
  | .BFC => s.withCtrl { s.ctrl with fc.z := w }
  | .OFX => s.withCtrl { s.ctrl with ofx := w }
  | .OFY => s.withCtrl { s.ctrl with ofy := w }
  | .H => s.withCtrl { s.ctrl with h := lowHalf w }
  | .DQA => s.withCtrl { s.ctrl with dqa := lowHalf w }
  | .DQB => s.withCtrl { s.ctrl with dqb := w }
  | .ZSF3 => s.withCtrl { s.ctrl with zsf3 := lowHalf w }
  | .ZSF4 => s.withCtrl { s.ctrl with zsf4 := lowHalf w }
  | .FLAG => s.withFlag (flagOfWord w)

/-- The host receives a result (00_scope R6). -/
def answer (r : Reply) (s : State) : State := s.withReplies (r :: s.replies)

/-- The host issues transactions: they wait behind those already issued (00_scope R6; log 1). -/
def issue (txs : List Transaction) (s : State) : State := s.withPending (s.pending ++ txs)

/-- `RESET`: the whole register file and both latches take their reset values (70_reset R180); what is not the
core's register file stays: the parameter, the waiting transactions and the host's results (logs 1, 2 and 5). -/
def execReset (s : State) : Host.Outcome State Fault Refusal :=
  .next { State.reset with mx3Const60 := s.mx3Const60, pending := s.pending, replies := s.replies }

/-- `REGREAD(idx)`: the host receives the register word (20_memory R53); a reserved index is refused (R57). -/
def execRegRead (idx : BitVec 6) (s : State) : Host.Outcome State Fault Refusal :=
  match regOfIndex idx with
  | some r => .next (answer (.word (readReg r s)) s)
  | none => .refused (.reservedRegister idx)

/-- `REGWRITE(idx, w)`: one register or packed pair changes (20_memory R54); a reserved index is refused (R57). -/
def execRegWrite (idx : BitVec 6) (w : Word) (s : State) : Host.Outcome State Fault Refusal :=
  match regOfIndex idx with
  | some r => .next (writeReg r w s)
  | none => .refused (.reservedRegister idx)

/-- `CLRFLAG`: every stored FLAG bit becomes 0 and nothing else changes (60_exceptions R171). -/
def execClrFlag (s : State) : Host.Outcome State Fault Refusal := .next (s.withFlag noFlags)

/-- The end of a `COMMAND` whose word was legal: the host receives `illegal` = 0 (30_encoding R71). -/
def finishCommand : Host.Outcome State Fault Refusal → Host.Outcome State Fault Refusal
  | .next t => .next (answer (.illegal false) t)
  | .fault f => .fault f
  | .refused r => .refused r

/-- How the host goes on after a refused transaction: the core is as if it had not been issued, and for a refused
`COMMAND` the host has received `illegal` = 1 (60_exceptions R166, 30_encoding R72). Not part of `step`: a run ends
at a refusal, and a host that goes on does so from this state (log 4). -/
def afterRefusal (s : State) : State :=
  match s.pending with
  | [] => s
  | .command _ :: rest => answer (.illegal true) (s.withPending rest)
  | .regRead _ :: rest => s.withPending rest
  | .regWrite _ _ :: rest => s.withPending rest
  | .reset :: rest => s.withPending rest
  | .clrFlag :: rest => s.withPending rest

end Sys2Proof.Machine
end

