-- ==== Sys2Proof/Machine/Step.lean ====
section
/-! DEFINITION. The step function: one step applies one transaction of the host whole (00_scope R6, 20_memory R63). -/

namespace Sys2Proof.Machine

/-- `COMMAND(cw)`: a legal word runs its command to completion and the host receives `illegal` = 0
(30_encoding R71); an unassigned function number is refused (R72). -/
def execCommand (cw : Word) (s : State) : Host.Outcome State Fault Refusal :=
  match decode cw with
  | .ok i => finishCommand (exec i s)
  | .error (.unassignedFunction fn) => .refused (.illegalCommand fn)

/-- A transaction applied to the whole state at once (00_scope R6). -/
def applyTransaction (tx : Transaction) (s : State) : Host.Outcome State Fault Refusal :=
  match tx with
  | .reset => execReset s
  | .regRead idx => execRegRead idx s
  | .regWrite idx w => execRegWrite idx w s
  | .clrFlag => execClrFlag s
  | .command cw => execCommand cw s

/-- One step: the oldest waiting transaction is taken and applied; with none waiting the core holds its state
(60_exceptions R179, 00_scope R5; log 3). -/
def step (s : State) : Host.Outcome State Fault Refusal :=
  match s.pending with
  | [] => .next s
  | tx :: rest => applyTransaction tx (s.withPending rest)

/-- `s` with a `COMMAND` of the table row's word as the transaction the next step takes: the row's `nbits` low bits of
`w`, every higher bit 0. The transactions already waiting stay behind it (log 1). -/
def State.withFetchWord (s : State) (nbits w : Nat) : State :=
  s.withPending (.command (BitVec.ofNat 32 (w % 2 ^ nbits)) :: s.pending)

end Sys2Proof.Machine
end

