-- ==== Sys2Proof/Safety.lean ====
section
/-! DEFINITION. The terms the claims use: the reference arithmetic of the spec's rules written over plain integers,
independently of the stepwise operations; which registers a command may write and which flags it may raise;
the ranges the commands keep; and what each register word holds. -/

namespace Sys2Proof.Safety

open Sys2Proof.Machine

/-- The nearest value of [lo, hi] (40_primitives R81). -/
def sat (lo hi v : Int) : Int := max lo (min hi v)

/-- A sum after the shift that `sf` selects (40_primitives R85). -/
def scaled (sf : Bool) (v : Int) : Int := if sf then v / 4096 else v

/-- The lower bound of `IR[1..3]` under `lm` (40_primitives R87). -/
def irLow (lm : Bool) : Int := if lm then 0 else -32768

/-- What `MAC[i]` receives from a sum, i = 1, 2, 3 (40_primitives R85). -/
def macOf (sf : Bool) (v : Int) : BitVec 32 := BitVec.ofInt 32 (scaled sf v)

/-- What `IR[i]` receives from a sum, as an integer, i = 1, 2, 3 (40_primitives R92). -/
def irInt (sf lm : Bool) (v : Int) : Int := sat (irLow lm) 32767 (scaled sf v)

/-- The sum is at least 2^43 (40_primitives R82). -/
def over44 (v : Int) : Bool := decide (v ≥ 8796093022208)

/-- The sum is below -2^43 (40_primitives R82). -/
def under44 (v : Int) : Bool := decide (v < -8796093022208)

/-- `IR[i]` is clamped (40_primitives R87). -/
def irClamped (sf lm : Bool) (v : Int) : Bool := decide (scaled sf v > 32767 ∨ scaled sf v < irLow lm)

/-- The flag bits one lane's `setMacAndIr` raises (40_primitives R92). -/
def laneRaises (i : Lane) (sf lm : Bool) (v : Int) (b : FlagBit) : Bool :=
  (over44 v && decide (macPosBit i = b)) || (under44 v && decide (macNegBit i = b)) ||
    (irClamped sf lm v && decide (irSatBit i = b))

/-- `MAC[1..3]` after a three-lane step on a triple of sums. -/
def macTriple (sf : Bool) (c : Vec3 Int) : Vec3 (BitVec 32) := ⟨macOf sf c.x, macOf sf c.y, macOf sf c.z⟩

/-- `IR[1..3]` after a three-lane step, as integers. -/
def irInts (sf lm : Bool) (c : Vec3 Int) : Vec3 Int := ⟨irInt sf lm c.x, irInt sf lm c.y, irInt sf lm c.z⟩

/-- A triple of integers as 16-bit registers. -/
def regs16 (c : Vec3 Int) : Vec3 (BitVec 16) := ⟨BitVec.ofInt 16 c.x, BitVec.ofInt 16 c.y, BitVec.ofInt 16 c.z⟩

/-- The flag bits a three-lane step raises. -/
def tripleRaises (sf lm : Bool) (c : Vec3 Int) (b : FlagBit) : Bool :=
  laneRaises .one sf lm c.x b || laneRaises .two sf lm c.y b || laneRaises .three sf lm c.z b

/-- A colour channel made from a stored accumulator (40_primitives R91). -/
def channelOf (m : BitVec 32) : BitVec 8 := BitVec.ofInt 8 (sat 0 255 (m.toInt / 16))

/-- The channel is clamped (40_primitives R91). -/
def channelClamped (m : BitVec 32) : Bool := decide (m.toInt / 16 > 255 ∨ m.toInt / 16 < 0)

/-- The colour pushed from an accumulator triple (40_primitives R91). -/
def colourOf (m : Vec3 (BitVec 32)) (code : BitVec 8) : Color := ⟨channelOf m.x, channelOf m.y, channelOf m.z, code⟩

/-- The flag bits a colour push raises (40_primitives R91). -/
def colourRaises (m : Vec3 (BitVec 32)) (b : FlagBit) : Bool :=
  (channelClamped m.x && decide (FlagBit.colorRSat = b)) || (channelClamped m.y && decide (FlagBit.colorGSat = b)) ||
    (channelClamped m.z && decide (FlagBit.colorBSat = b))

/-- The colour FIFO after a push (40_primitives R91). -/
def pushedColour (q : Fifo3 Color) (c : Color) : Fifo3 Color := ⟨q.e1, q.e2, c⟩

/-- A triple of signed registers as integers. -/
def ints {w : Nat} (v : Vec3 (BitVec w)) : Vec3 Int := ⟨v.x.toInt, v.y.toInt, v.z.toInt⟩

/-- A matrix of signed coefficients as integers. -/
def matInts (m : Mat3 (BitVec 16)) : Mat3 Int := ⟨ints m.r1, ints m.r2, ints m.r3⟩

/-- One row of a matrix times a vector. -/
def rowTimes (r v : Vec3 Int) : Int := r.x * v.x + r.y * v.y + r.z * v.z

/-- The three sums of a matrix product with a translation 4096 times coarser (40_primitives R93). -/
def matrixSums (m : Mat3 Int) (v t : Vec3 Int) : Vec3 Int :=
  ⟨t.x * 4096 + rowTimes m.r1 v, t.y * 4096 + rowTimes m.r2 v, t.z * 4096 + rowTimes m.r3 v⟩

/-- The transformed sums s1, s2, s3 of `rtps(n)` (42_geometry R112). -/
def transformSums (s : State) (n : Vertex) : Vec3 Int :=
  matrixSums (matInts s.ctrl.rt) (ints (s.vertex n)) (ints s.ctrl.tr)

/-- The light-vector sums of vertex `n` (43_lighting R121). -/
def lightSums (s : State) (n : Vertex) : Vec3 Int :=
  ⟨rowTimes (ints s.ctrl.llm.r1) (ints (s.vertex n)), rowTimes (ints s.ctrl.llm.r2) (ints (s.vertex n)),
    rowTimes (ints s.ctrl.llm.r3) (ints (s.vertex n))⟩

/-- The light-colour sums of an `IR` triple (43_lighting R128). -/
def colourSums (s : State) (u : Vec3 Int) : Vec3 Int := matrixSums (matInts s.ctrl.lcm) u (ints s.ctrl.bk)

/-- The input colour, times 16, times an `IR` triple (43_lighting R131, R132, 44_depthcue R138). -/
def productSums (s : State) (u : Vec3 Int) : Vec3 Int :=
  ⟨(s.rgbc.r.toNat : Int) * 16 * u.x, (s.rgbc.g.toNat : Int) * 16 * u.y, (s.rgbc.b.toNat : Int) * 16 * u.z⟩

/-- The far colour times 4096 minus a source triple (40_primitives R94). -/
def differenceSums (s : State) (c : Vec3 Int) : Vec3 Int :=
  ⟨s.ctrl.fc.x.toInt * 4096 - c.x, s.ctrl.fc.y.toInt * 4096 - c.y, s.ctrl.fc.z.toInt * 4096 - c.z⟩

/-- A source triple plus `IR[0]` times a difference triple (40_primitives R94). -/
def blendSums (s : State) (c d : Vec3 Int) : Vec3 Int :=
  ⟨c.x + s.ir0.toInt * d.x, c.y + s.ir0.toInt * d.y, c.z + s.ir0.toInt * d.z⟩

/-- A colour's channels times 65536, the source triple of `dpcs` (44_depthcue R136). -/
def colourTimes65536 (c : Color) : Vec3 Int :=
  ⟨(c.r.toNat : Int) * 65536, (c.g.toNat : Int) * 65536, (c.b.toNat : Int) * 65536⟩

/-- The blend of a source triple toward the far colour: the sums of the last three calls of `interpolate`, the
difference having been clamped with `lm` = 0 whatever the command's `lm` (40_primitives R94). -/
def interpolated (s : State) (sf : Bool) (c : Vec3 Int) : Vec3 Int :=
  blendSums s c (irInts sf false (differenceSums s c))

/-- The matrix that `mx` names (45_general R149); for the fourth, the rows (-a, a, IR[0]), (RT13, RT13, RT13),
(RT22, RT22, RT22) with a = 0x60 or `RGBC.r` times 16 by the open parameter (R150, 00_scope R10). -/
def namedMatrix (s : State) : MatrixSel → Mat3 Int
  | .rt => matInts s.ctrl.rt
  | .llm => matInts s.ctrl.llm
  | .lcm => matInts s.ctrl.lcm
  | .buggy =>
    let a : Int := if s.mx3Const60 then 96 else (s.rgbc.r.toNat : Int) * 16
    ⟨⟨-a, a, s.ir0.toInt⟩, ⟨s.ctrl.rt.r1.z.toInt, s.ctrl.rt.r1.z.toInt, s.ctrl.rt.r1.z.toInt⟩,
      ⟨s.ctrl.rt.r2.y.toInt, s.ctrl.rt.r2.y.toInt, s.ctrl.rt.r2.y.toInt⟩⟩

/-- The vector that `vx` names (45_general R149). -/
def namedVector (s : State) : VectorSel → Vec3 Int
  | .v0 => ints s.v.v0
  | .v1 => ints s.v.v1
  | .v2 => ints s.v.v2
  | .ir => ints s.ir

/-- The translation that `tx` names (45_general R149). -/
def namedTranslation (s : State) : TranslationSel → Vec3 Int
  | .tr => ints s.ctrl.tr
  | .bk => ints s.ctrl.bk
  | .fc => ints s.ctrl.fc
  | .zero => ⟨0, 0, 0⟩

/-- The registers a command may write, `FLAG` among them (10_state R39, column "writes"). -/
def mayWrite : Instr → List RegName
  | .nclip _ _ => [.MAC0, .FLAG]
  | .avsz3 _ _ | .avsz4 _ _ => [.MAC0, .OTZ, .FLAG]
  | .rtps _ _ | .rtpt _ _ =>
    [.MAC0, .MAC1, .MAC2, .MAC3, .IR0, .IR1, .IR2, .IR3, .SZ0, .SZ1, .SZ2, .SZ3, .SXY0, .SXY1, .SXY2, .FLAG]
  | .ncs _ _ | .nct _ _ | .nccs _ _ | .ncct _ _ | .ncds _ _ | .ncdt _ _ | .cc _ _ | .cdp _ _ | .dpcs _ _
  | .dpct _ _ | .dcpl _ _ | .intpl _ _ | .gpf _ _ | .gpl _ _ =>
    [.MAC1, .MAC2, .MAC3, .IR1, .IR2, .IR3, .RGB0, .RGB1, .RGB2, .FLAG]
  | .mvmva _ _ _ _ _ | .sqr _ _ | .op _ _ => [.MAC1, .MAC2, .MAC3, .IR1, .IR2, .IR3, .FLAG]

/-- The overflow bits of `MAC[1..3]`. -/
def macBits : List FlagBit := [.mac1Pos, .mac2Pos, .mac3Pos, .mac1Neg, .mac2Neg, .mac3Neg]

/-- The saturation bits of `IR[1..3]`. -/
def irBits : List FlagBit := [.ir1Sat, .ir2Sat, .ir3Sat]

/-- The saturation bits of a colour push. -/
def colourBits : List FlagBit := [.colorRSat, .colorGSat, .colorBSat]

/-- The flag bits a command can raise (60_exceptions R161, last column). -/
def mayRaise : Instr → List FlagBit
  | .nclip _ _ => [.mac0Pos, .mac0Neg]
  | .avsz3 _ _ | .avsz4 _ _ => [.mac0Pos, .mac0Neg, .sz3OtzSat]
  | .rtps _ _ | .rtpt _ _ =>
    macBits ++ irBits ++ [.sz3OtzSat, .divOvf, .mac0Pos, .mac0Neg, .sx2Sat, .sy2Sat, .ir0Sat]
  | .ncs _ _ | .nct _ _ | .nccs _ _ | .ncct _ _ | .ncds _ _ | .ncdt _ _ | .cc _ _ | .cdp _ _ | .dpcs _ _
  | .dpct _ _ | .dcpl _ _ | .intpl _ _ | .gpl _ _ => macBits ++ irBits ++ colourBits
  | .gpf _ _ => irBits ++ colourBits
  | .mvmva _ _ _ _ _ => macBits ++ irBits
  | .sqr _ _ | .op _ _ => irBits

/-- The commands that write `MAC[1..3]` and `IR[1..3]`: all but `nclip`, `avsz3`, `avsz4` (10_state R16). -/
def writesIr : Instr → Bool
  | .nclip _ _ | .avsz3 _ _ | .avsz4 _ _ => false
  | .rtps _ _ | .rtpt _ _ | .ncs _ _ | .nct _ _ | .nccs _ _ | .ncct _ _ | .ncds _ _ | .ncdt _ _ | .cc _ _ | .cdp _ _
  | .dpcs _ _ | .dpct _ _ | .dcpl _ _ | .intpl _ _ | .gpf _ _ | .gpl _ _ | .mvmva _ _ _ _ _ | .sqr _ _
  | .op _ _ => true

/-- The command selects the matrix of `mx` = 3, the one use of the open parameter (45_general R150). -/
def usesBuggyMatrix : Instr → Bool
  | .mvmva _ _ .buggy _ _ => true
  | .mvmva _ _ .rt _ _ | .mvmva _ _ .llm _ _ | .mvmva _ _ .lcm _ _ => false
  | .rtps _ _ | .nclip _ _ | .op _ _ | .dpcs _ _ | .intpl _ _ | .ncds _ _ | .cdp _ _ | .ncdt _ _ | .nccs _ _
  | .cc _ _ | .ncs _ _ | .nct _ _ | .sqr _ _ | .dcpl _ _ | .dpct _ _ | .avsz3 _ _ | .avsz4 _ _ | .rtpt _ _
  | .gpf _ _ | .gpl _ _ | .ncct _ _ => false

/-- A screen point in the range a push keeps (10_state R17, 40_primitives R89). -/
def ScreenInRange (p : ScreenXY) : Prop :=
  -1024 ≤ p.x.toInt ∧ p.x.toInt ≤ 1023 ∧ -1024 ≤ p.y.toInt ∧ p.y.toInt ≤ 1023

/-- The ranges the commands keep beyond the registers' widths: `IR[0]` in [0, 0x1000] (10_state R15) and the screen
XY FIFO in [-0x400, 0x3ff] (R17). -/
def CommandRanges (s : State) : Prop :=
  0 ≤ s.ir0.toInt ∧ s.ir0.toInt ≤ 4096 ∧
    ScreenInRange s.sxy.e0 ∧ ScreenInRange s.sxy.e1 ∧ ScreenInRange s.sxy.e2

/-- The host is not about to store into `IR[0]` or the screen XY FIFO directly, which can leave those ranges
(20_memory R54, 70_reset R185 item 8). -/
def NoDirectStore (s : State) : Prop :=
  ∀ idx w, Transaction.regWrite idx w ∈ s.pending → idx ∉ [8#6, 12#6, 13#6, 14#6]

/-- What a register word holds: one row of the index map (20_memory R56). -/
inductive Contents where
  /-- a single signed 16-bit register -/
  | signed16 (x : BitVec 16)
  /-- a single unsigned 16-bit register -/
  | unsigned16 (x : BitVec 16)
  /-- two 16-bit registers, the first in bits 15:0 -/
  | pair (lo hi : BitVec 16)
  /-- the four channels of a colour, `r` lowest -/
  | colour (c : Color)
  /-- a 32-bit register -/
  | whole (x : BitVec 32)
deriving DecidableEq, Repr

/-- The word holds those contents: sign-extended, zero-extended, or with each part at its place (20_memory R53, R55). -/
def Contents.holds (w : Word) : Contents → Prop
  | .signed16 x => w.toInt = x.toInt
  | .unsigned16 x => w.toNat = x.toNat
  | .pair lo hi => w.toNat = lo.toNat + hi.toNat * 65536
  | .colour c => w.toNat = c.r.toNat + c.g.toNat * 256 + c.b.toNat * 65536 + c.code.toNat * 16777216
  | .whole x => w = x

/-- The index map: the contents of the words at the 57 assigned indices other than that of FLAG (20_memory R56). -/
def portMap (s : State) : List (BitVec 6 × Contents) :=
  [(0, .pair s.v.v0.x s.v.v0.y), (1, .signed16 s.v.v0.z), (2, .pair s.v.v1.x s.v.v1.y), (3, .signed16 s.v.v1.z),
   (4, .pair s.v.v2.x s.v.v2.y), (5, .signed16 s.v.v2.z), (6, .colour s.rgbc), (7, .unsigned16 s.otz),
   (8, .signed16 s.ir0), (9, .signed16 s.ir.x), (10, .signed16 s.ir.y), (11, .signed16 s.ir.z),
   (12, .pair s.sxy.e0.x s.sxy.e0.y), (13, .pair s.sxy.e1.x s.sxy.e1.y), (14, .pair s.sxy.e2.x s.sxy.e2.y),
   (16, .unsigned16 s.sz.e0), (17, .unsigned16 s.sz.e1), (18, .unsigned16 s.sz.e2), (19, .unsigned16 s.sz.e3),
   (20, .colour s.rgb.e0), (21, .colour s.rgb.e1), (22, .colour s.rgb.e2), (24, .whole s.mac0),
   (25, .whole s.mac.x), (26, .whole s.mac.y), (27, .whole s.mac.z), (32, .pair s.ctrl.rt.r1.x s.ctrl.rt.r1.y),
   (33, .pair s.ctrl.rt.r1.z s.ctrl.rt.r2.x), (34, .pair s.ctrl.rt.r2.y s.ctrl.rt.r2.z),
   (35, .pair s.ctrl.rt.r3.x s.ctrl.rt.r3.y), (36, .signed16 s.ctrl.rt.r3.z), (37, .whole s.ctrl.tr.x),
   (38, .whole s.ctrl.tr.y), (39, .whole s.ctrl.tr.z), (40, .pair s.ctrl.llm.r1.x s.ctrl.llm.r1.y),
   (41, .pair s.ctrl.llm.r1.z s.ctrl.llm.r2.x), (42, .pair s.ctrl.llm.r2.y s.ctrl.llm.r2.z),
   (43, .pair s.ctrl.llm.r3.x s.ctrl.llm.r3.y), (44, .signed16 s.ctrl.llm.r3.z), (45, .whole s.ctrl.bk.x),
   (46, .whole s.ctrl.bk.y), (47, .whole s.ctrl.bk.z), (48, .pair s.ctrl.lcm.r1.x s.ctrl.lcm.r1.y),
   (49, .pair s.ctrl.lcm.r1.z s.ctrl.lcm.r2.x), (50, .pair s.ctrl.lcm.r2.y s.ctrl.lcm.r2.z),
   (51, .pair s.ctrl.lcm.r3.x s.ctrl.lcm.r3.y), (52, .signed16 s.ctrl.lcm.r3.z), (53, .whole s.ctrl.fc.x),
   (54, .whole s.ctrl.fc.y), (55, .whole s.ctrl.fc.z), (56, .whole s.ctrl.ofx), (57, .whole s.ctrl.ofy),
   (58, .unsigned16 s.ctrl.h), (59, .signed16 s.ctrl.dqa), (60, .whole s.ctrl.dqb), (61, .signed16 s.ctrl.zsf3),
   (62, .signed16 s.ctrl.zsf4)]

end Sys2Proof.Safety
end

