-- ==== Sys2Proof/Certificates/Slice0/Obligations.lean ====
section
/-! DEFINITION. The statements for the provers. Each docstring says which rule of spec/ it formalises; a clause that
rests on a choice of the model names its log entry. -/

open Sys2Proof Sys2Proof.Machine Sys2Proof.Safety

/-! ### Command words (30_encoding) -/

/-- R65, R67, R69, R70, R75: a command's encoding decodes to it, and a word decodes to it exactly when it agrees with
that encoding on the bits the decoder reads for it. -/
def Obligations.DecodeInvertsEncodeOnDecodedBits : Prop :=
  ∀ i : Instr, i.wellFormed = true →
    decode (encode i) = .ok i ∧
      ∀ w : Word, decode w = .ok i ↔ w &&& significantBits i = encode i &&& significantBits i

/-- R77: every conventional full word of existing software decodes as the table shows. -/
def Obligations.ConventionalWordsDecode : Prop :=
  decode 0x4A180001 = .ok (.rtps true false) ∧ decode 0x4A280030 = .ok (.rtpt true false) ∧
  decode 0x4B400006 = .ok (.nclip false false) ∧ decode 0x4B58002D = .ok (.avsz3 true false) ∧
  decode 0x4B68002E = .ok (.avsz4 true false) ∧ decode 0x4B70000C = .ok (.op false false) ∧
  decode 0x4B78000C = .ok (.op true false) ∧ decode 0x4AA00428 = .ok (.sqr false true) ∧
  decode 0x4AA80428 = .ok (.sqr true true) ∧ decode 0x4A400012 = .ok (.mvmva false false .rt .v0 .tr) ∧
  decode 0x4A780010 = .ok (.dpcs true false) ∧ decode 0x4AF8002A = .ok (.dpct true false) ∧
  decode 0x4A980011 = .ok (.intpl true false) ∧ decode 0x4A680029 = .ok (.dcpl true false) ∧
  decode 0x4AC8041E = .ok (.ncs true true) ∧ decode 0x4AD80420 = .ok (.nct true true) ∧
  decode 0x4AE80413 = .ok (.ncds true true) ∧ decode 0x4AF80416 = .ok (.ncdt true true) ∧
  decode 0x4B08041B = .ok (.nccs true true) ∧ decode 0x4B18043F = .ok (.ncct true true) ∧
  decode 0x4B280414 = .ok (.cdp true true) ∧ decode 0x4B38041C = .ok (.cc true true) ∧
  decode 0x4B90003D = .ok (.gpf false false) ∧ decode 0x4B98003D = .ok (.gpf true false) ∧
  decode 0x4BA0003E = .ok (.gpl false false) ∧ decode 0x4BA8003E = .ok (.gpl true false)

/-- R66, R67, R72, R73: every word either decodes to a command of its own function number, with that number among the
22 assigned ones, or its function number is one of the 42 unassigned ones and the decoder rejects it by that number. -/
def Obligations.EveryWordIsACommandOrUnassigned : Prop :=
  ∀ w : Word,
    (∃ i, decode w = .ok i ∧ fnOf i = w.extractLsb' 0 6 ∧ sfOf i = w.getLsbD 19 ∧ lmOf i = w.getLsbD 10 ∧
        w.extractLsb' 0 6 ∈ assignedFunctions) ∨
      (decode w = .error (.unassignedFunction (w.extractLsb' 0 6)) ∧
        (w.extractLsb' 0 6).toNat ∈
          [0x00, 0x02, 0x03, 0x04, 0x05, 0x07, 0x08, 0x09, 0x0A, 0x0B, 0x0D, 0x0E, 0x0F, 0x15, 0x17, 0x18, 0x19, 0x1A,
            0x1D, 0x1F, 0x21, 0x22, 0x23, 0x24, 0x25, 0x26, 0x27, 0x2B, 0x2C, 0x2F, 0x31, 0x32, 0x33, 0x34, 0x35,
            0x36, 0x37, 0x38, 0x39, 0x3A, 0x3B, 0x3C])

/-- R72, R166, U1: a COMMAND whose function number is unassigned is refused; the host that goes on does so from the
same state, having received `illegal` = 1. That the refusal ends a run, and that the host's continuation is
`afterRefusal`, is the model's form (log 4). -/
def Obligations.UnassignedFunctionIsRefusedWithoutEffect : Prop :=
  ∀ (w : Word) (s : State) (rest : List Transaction), w.extractLsb' 0 6 ∉ assignedFunctions →
    step (s.withPending (.command w :: rest)) = .refused (.illegalCommand (w.extractLsb' 0 6)) ∧
      afterRefusal (s.withPending (.command w :: rest)) =
        { s with pending := rest, replies := .illegal true :: s.replies }

/-- R70, U10: words that agree on the decoded bits behave identically, whatever the ignored bits; for a command other
than `mvmva` bits 18:13 are ignored as well. -/
def Obligations.IgnoredBitsHaveNoEffect : Prop :=
  ∀ (w w' : Word) (s : State),
    (w &&& 0x000FE43F = w' &&& 0x000FE43F →
      applyTransaction (.command w) s = applyTransaction (.command w') s) ∧
    (w &&& 0x0008043F = w' &&& 0x0008043F → w.extractLsb' 0 6 ≠ 0x12#6 →
      applyTransaction (.command w) s = applyTransaction (.command w') s)

/-- R71: when the waiting COMMAND's word decodes to a command, the step is that command's `exec` on the state without
the transaction, after which the host has received `illegal` = 0 (logs 1 and 2: how transactions wait and results are
kept). -/
def Obligations.StepRunsTheDecodedCommand : Prop :=
  ∀ (w : Word) (i : Instr) (s t : State) (rest : List Transaction),
    decode w = .ok i → i.wellFormed = true → exec i (s.withPending rest) = .next t →
      step (s.withPending (.command w :: rest)) = .next { t with replies := .illegal false :: t.replies }

/-! ### Transactions and the register port (00_scope, 20_memory, 60_exceptions, 70_reset) -/

/-- R6, R63: a step applies the oldest waiting transaction, whole and alone, to the state without it, completing or being
refused as that transaction is; with none waiting (R179) nothing changes. A step that completes gives the host exactly
the result of its transaction and never changes the open parameter. The queue, the record of results, the idle step, the
form of a refusal and the parameter's place are the model's (logs 1 to 5). -/
def Obligations.StepAppliesTheOldestTransaction : Prop :=
  ∀ s : State,
    (∀ tx rest, s.pending = tx :: rest → step s = applyTransaction tx (s.withPending rest)) ∧
    (s.pending = [] → step s = .next s) ∧
    ∀ t, step s = .next t →
      t.pending = s.pending.tail ∧ t.mx3Const60 = s.mx3Const60 ∧
        match s.pending with
        | [] => t = s
        | .regRead idx :: _ => ∃ r, indexOf r = idx ∧ t.replies = .word (readReg r s) :: s.replies
        | .command _ :: _ => t.replies = .illegal false :: s.replies
        | .regWrite _ _ :: _ => t.replies = s.replies
        | .clrFlag :: _ => t.replies = s.replies
        | .reset :: _ => t.replies = s.replies

/-- R53, R60: a REGREAD of an assigned index gives the register word and changes nothing else, so a second one gives
the same word. The queue and the record of results are the model's (logs 1, 2). -/
def Obligations.RegReadGivesTheWordAndChangesNothing : Prop :=
  ∀ (r : RegName) (s : State) (rest : List Transaction),
    step (s.withPending (.regRead (indexOf r) :: rest)) =
        .next { s with pending := rest, replies := .word (readReg r s) :: s.replies } ∧
      readReg r { s with pending := rest, replies := .word (readReg r s) :: s.replies } = readReg r s

/-- R53, R54, R60: what a read returns after a REGWRITE of the same index: the word itself for a 32-bit register, a
pair or a colour; its low half sign-extended for a signed 16-bit register and zero-extended for an unsigned one; for
FLAG the bits 30:12 with the derived bit 31. The queue is the model's (log 1). -/
def Obligations.RegWriteThenReadGivesTheTruncatedWord : Prop :=
  ∀ (r : RegName) (w : Word) (s : State) (rest : List Transaction), ∃ t,
    step (s.withPending (.regWrite (indexOf r) w :: rest)) = .next t ∧
      readReg r t =
        if r ∈ [.VZ0, .VZ1, .VZ2, .IR0, .IR1, .IR2, .IR3, .RT33, .L33, .LB3, .DQA, .ZSF3, .ZSF4] then
          (w.setWidth 16).signExtend 32
        else if r ∈ [.OTZ, .SZ0, .SZ1, .SZ2, .SZ3, .H] then (w.setWidth 16).setWidth 32
        else if r = .FLAG then (w &&& 0x7FFFF000) ||| (if w &&& 0x7F87E000 = 0 then 0 else 0x80000000)
        else w

/-- R40, R54: a REGWRITE changes the word of its own index and no other, nor a latch, and gives no result. The queue,
the record of results and the parameter's place are the model's (logs 1, 2, 5). -/
def Obligations.RegWriteChangesNoOtherWord : Prop :=
  ∀ (r r' : RegName) (w : Word) (s : State) (rest : List Transaction), r' ≠ r → ∃ t,
    step (s.withPending (.regWrite (indexOf r) w :: rest)) = .next t ∧
      readReg r' t = readReg r' s ∧ t.sf = s.sf ∧ t.lm = s.lm ∧ t.mx3Const60 = s.mx3Const60 ∧
      t.pending = rest ∧ t.replies = s.replies

/-- R53, R55, R56: each assigned index leads to one register word and each word holds the fields that its row of R56 gives
it, each field in its own half or byte (FLAG, at index 63, is FlagWordHoldsEachConditionAtItsBit's). So the 58 words hold
every named register: two states in which every word reads the same have the same register file. -/
def Obligations.RegisterWordsDetermineTheRegisterFile : Prop :=
  (∀ s : State, ∀ p ∈ portMap s, ∃ r, indexOf r = p.1 ∧ regOfIndex p.1 = some r ∧ p.2.holds (readReg r s)) ∧
    (indexOf .FLAG = 63 ∧ regOfIndex 63 = some .FLAG) ∧
    ∀ s t : State, (∀ r, readReg r s = readReg r t) →
      s.v = t.v ∧ s.rgbc = t.rgbc ∧ s.otz = t.otz ∧ s.ir0 = t.ir0 ∧ s.ir = t.ir ∧ s.sxy = t.sxy ∧ s.sz = t.sz ∧
        s.rgb = t.rgb ∧ s.mac0 = t.mac0 ∧ s.mac = t.mac ∧ s.ctrl = t.ctrl ∧ s.flag = t.flag

/-- R57, R166, U3: a REGREAD or REGWRITE of a reserved index, and of no other, is refused; the host that goes on does
so from the same state with no result (the form of the refusal: log 4; the queue: log 1). -/
def Obligations.ReservedIndexIsRefusedWithoutEffect : Prop :=
  ∀ (idx : BitVec 6) (w : Word) (s : State) (rest : List Transaction),
    (idx.toNat ∈ [15, 23, 28, 29, 30, 31] →
      step (s.withPending (.regRead idx :: rest)) = .refused (.reservedRegister idx) ∧
      step (s.withPending (.regWrite idx w :: rest)) = .refused (.reservedRegister idx) ∧
      afterRefusal (s.withPending (.regRead idx :: rest)) = s.withPending rest ∧
      afterRefusal (s.withPending (.regWrite idx w :: rest)) = s.withPending rest) ∧
    (idx.toNat ∉ [15, 23, 28, 29, 30, 31] → ∃ r, indexOf r = idx ∧ regOfIndex idx = some r)

/-- R7, R165, R166: a legal transaction (an assigned register index, an assigned function number, RESET or CLRFLAG)
completes on every state, and the only others are the two refused kinds (the form of a refusal: log 4). -/
def Obligations.TransactionsCompleteOrAreRefused : Prop :=
  ∀ (tx : Transaction) (s : State),
    (tx.wellFormed = true → ∃ t, applyTransaction tx s = .next t) ∧
      (tx.wellFormed = false →
        (∃ cw, tx = .command cw ∧ applyTransaction tx s = .refused (.illegalCommand (cw.extractLsb' 0 6))) ∨
          ∃ idx, idx ∈ reservedIndices ∧ (tx = .regRead idx ∨ ∃ w, tx = .regWrite idx w) ∧
            applyTransaction tx s = .refused (.reservedRegister idx))

/-- R171: CLRFLAG sets all the stored bits to 0, so that FLAG reads 0 until a command sets a bit again (or
the host stores into FLAG); it changes nothing else, is always legal and idempotent, and is equivalent to REGWRITE(63, 0). -/
def Obligations.ClrFlagClearsEveryStoredBit : Prop :=
  ∀ s : State,
    applyTransaction .clrFlag s = .next { s with flag := 0 } ∧
      readReg .FLAG { s with flag := 0 } = 0 ∧
      (∀ b, ({ s with flag := 0 } : State).flagged b = false) ∧
      (∀ tx t, applyTransaction tx { s with flag := 0 } = .next t → (∀ w, tx ≠ .command w) →
        (∀ w, tx ≠ .regWrite 63 w) → readReg .FLAG t = 0) ∧
      applyTransaction .clrFlag { s with flag := 0 } = .next { s with flag := 0 } ∧
      applyTransaction (.regWrite 63 0) s = applyTransaction .clrFlag s

/-- R180, R49: RESET is always legal; after it every register word reads 0 and both latches are 0, whatever the state
before, and a second RESET changes nothing. The waiting transactions, the results and the parameter are not the
core's registers and stay (logs 1, 2, 5). -/
def Obligations.ResetClearsTheRegisterFile : Prop :=
  ∀ s : State, ∃ t, applyTransaction .reset s = .next t ∧
    (∀ r, readReg r t = 0) ∧ t.sf = false ∧ t.lm = false ∧ t.pending = s.pending ∧ t.replies = s.replies ∧
      t.mx3Const60 = s.mx3Const60 ∧ applyTransaction .reset t = .next t ∧
      (∀ r, readReg r State.reset = 0) ∧ State.reset.sf = false ∧ State.reset.lm = false

/-- R34: bit 31 of the FLAG word is 1 exactly when one of the bits 30 to 23 and 18 to 13 is, which is the mask
0x7F87E000; so bits 22, 21, 20, 19 and 12 do not contribute; and it is not stored: a write of it changes nothing. -/
def Obligations.ErrBitIsTheOrOfItsSubset : Prop :=
  ∀ (s : State) (w : Word),
    ((readReg .FLAG s).getLsbD 31 = true ↔
      ∃ k ∈ [30, 29, 28, 27, 26, 25, 24, 23, 18, 17, 16, 15, 14, 13], (readReg .FLAG s).getLsbD k = true) ∧
    ((readReg .FLAG s).getLsbD 31 = true ↔ readReg .FLAG s &&& 0x7F87E000 ≠ 0) ∧
    writeReg .FLAG (w ||| 0x80000000) s = writeReg .FLAG w s

/-- R33, R54, R58: each stored condition stands at its bit of the FLAG word for reads and writes, and bits 11:0 read
0. -/
def Obligations.FlagWordHoldsEachConditionAtItsBit : Prop :=
  ∀ (s : State) (w : Word),
    (∀ p ∈ [(30, FlagBit.mac1Pos), (29, .mac2Pos), (28, .mac3Pos), (27, .mac1Neg), (26, .mac2Neg), (25, .mac3Neg),
        (24, .ir1Sat), (23, .ir2Sat), (22, .ir3Sat), (21, .colorRSat), (20, .colorGSat), (19, .colorBSat),
        (18, .sz3OtzSat), (17, .divOvf), (16, .mac0Pos), (15, .mac0Neg), (14, .sx2Sat), (13, .sy2Sat),
        (12, .ir0Sat)],
      (readReg .FLAG s).getLsbD p.1 = s.flagged p.2 ∧ (writeReg .FLAG w s).flagged p.2 = w.getLsbD p.1) ∧
    ∀ k < 12, (readReg .FLAG s).getLsbD k = false

/-! ### Rules over all commands (10_state, 60_exceptions) -/

/-- R7, R165, R68, R71: every command, on every state and with every operand, completes, loads the latches from its
own `sf` and `lm`, and leaves the host's queue and results and the parameter alone (the model's: logs 1, 2, 5). -/
def Obligations.EveryCommandCompletes : Prop :=
  ∀ (i : Instr) (s : State), ∃ t, exec i s = .next t ∧ t.sf = sfOf i ∧ t.lm = lmOf i ∧
    t.pending = s.pending ∧ t.replies = s.replies ∧ t.mx3Const60 = s.mx3Const60

/-- R39, R12, R13 and 10_state section 3: a command changes no register word but those of its "writes" column; so no
command writes an input vector, the input colour or a control register other than FLAG. -/
def Obligations.CommandsWriteOnlyTheirRegisters : Prop :=
  ∀ (i : Instr) (s : State), ∃ t, exec i s = .next t ∧
    (∀ r, r ∉ mayWrite i → readReg r t = readReg r s) ∧ t.v = s.v ∧ t.rgbc = s.rgbc ∧ t.ctrl = s.ctrl

/-- R35, R161: a command clears no flag bit, and raises none but those the list of conditions gives it; so `gpf`, `sqr`
and `op` raise no accumulator flag and `mvmva` no colour flag. -/
def Obligations.CommandsRaiseOnlyTheirFlags : Prop :=
  ∀ (i : Instr) (s : State), ∃ t, exec i s = .next t ∧
    ∀ b, (s.flagged b = true → t.flagged b = true) ∧ (t.flagged b = true → s.flagged b = true ∨ b ∈ mayRaise i)

/-- R35: a command only sets stored flag bits: those set before it stay set, OR-ed with the new ones. A stored bit
changes to 0 only by RESET, by CLRFLAG, or by a REGWRITE of index 63 that writes 0 to it. -/
def Obligations.FlagBitsAreSticky : Prop :=
  (∀ (i : Instr) (s : State), ∃ t g, exec i s = .next t ∧ t.flag = s.flag ||| g) ∧
    ∀ (tx : Transaction) (s t : State) (b : FlagBit), applyTransaction tx s = .next t →
      s.flagged b = true → t.flagged b = false →
        tx = .reset ∨ tx = .clrFlag ∨ ∃ w, tx = .regWrite 63 w ∧ w.getLsbD b.pos = false

/-- R36, R163: flags are outputs only. Whatever FLAG a command starts from, it writes the same values, and the bits it
raises, OR-ed to the FLAG it started from, are the same. -/
def Obligations.FlagsAreOutputsOnly : Prop :=
  ∀ (i : Instr) (s : State), ∃ t g, exec i s = .next t ∧ t.flag = s.flag ||| g ∧
    ∀ f, exec i (s.withFlag f) = .next (t.withFlag (f ||| g))

/-- R37, R68: what the latches held before a command plays no part in it. -/
def Obligations.LatchesHaveNoEffectOnLaterCommands : Prop :=
  ∀ (i : Instr) (s : State) (a b : Bool), exec i (s.withLatches a b) = exec i s

/-- R10: no command but `mvmva` with `mx` = 3 reads the open parameter (kept in State by log 5). -/
def Obligations.OnlyTheFourthMatrixReadsTheParameter : Prop :=
  ∀ (i : Instr) (s : State) (b : Bool), usesBuggyMatrix i = false → ∃ t,
    exec i s = .next t ∧ exec i { s with mx3Const60 := b } = .next { t with mx3Const60 := b }

/-- R16, R41: after a command that writes them, with `lm` = 1, `IR[1..3]` are not negative. -/
def Obligations.LowerLimitKeepsIrNonNegative : Prop :=
  ∀ (i : Instr) (s : State), writesIr i = true → lmOf i = true → ∃ t, exec i s = .next t ∧
    0 ≤ t.ir.x.toInt ∧ 0 ≤ t.ir.y.toInt ∧ 0 ≤ t.ir.z.toInt

/-- R15, R17, R41, R54: the ranges [0, 0x1000] of `IR[0]` and [-0x400, 0x3ff] of the screen XY FIFO are kept by every
step, as long as the host is not about to store into those registers directly (which may leave the ranges). That what
the host is about to do stands in a queue of the state is the model's choice (log 1). -/
def Obligations.EveryStepKeepsTheCommandRanges : Prop :=
  ∀ s t : State, CommandRanges s → NoDirectStore s → step s = .next t → CommandRanges t ∧ NoDirectStore t

/-- R49: the reset state is within the ranges of the invariant above, with nothing waiting (log 1). -/
def Obligations.ResetIsWithinTheCommandRanges : Prop :=
  CommandRanges State.reset ∧ NoDirectStore State.reset

/-! ### The divider (41_divider) -/

/-- R102: the table has 257 entries and each is what the generator expression gives. -/
def Obligations.ReciprocalTableMatchesItsGenerator : Prop :=
  unrTable.length = 257 ∧
    ∀ k ∈ List.range 257, ((unr k : Nat) : Int) = max 0 (((0x40000 / ((k : Int) + 0x100)) + 1) / 2 - 0x101)

/-- R101: `clz16` counts the 0 bits from bit 15 down; for `x` = 0 it is 16, and otherwise it is at most 15 and the
normalised value lies in [0x8000, 0xffff]. `divideUNR` takes the overflow exit before it would ask for `x` = 0. -/
def Obligations.Clz16CountsTheLeadingZeros : Prop :=
  (∀ lhs : BitVec 16, divideUNR lhs 0 = divideOverflow) ∧ ∀ x : BitVec 16,
    (∀ k < clz16 x, x.getLsbD (15 - k) = false) ∧
    (clz16 x = 16 ↔ x = 0) ∧
    (x ≠ 0 → clz16 x ≤ 15 ∧ x.getLsbD (15 - clz16 x) = true ∧
      0x8000 ≤ x.toNat * 2 ^ clz16 x ∧ x.toNat * 2 ^ clz16 x ≤ 0xffff)

/-- R103, R105 item 1: the reciprocal of every normalised divisor lies in [0x10000, 0x20000]. -/
def Obligations.ReciprocalStaysInRange : Prop :=
  ∀ d : Nat, 0x8000 ≤ d → d ≤ 0xffff → 0x10000 ≤ recipUNR d ∧ recipUNR d ≤ 0x20000

/-- R104, R108: a zero divisor and a dividend of at least twice the divisor take the overflow exit with the flag; a
zero dividend gives 0 without it; equal operands give one of 0xffff, 0x10000, 0x10001 without it. -/
def Obligations.DivideCorners : Prop :=
  ∀ lhs rhs : BitVec 16,
    divideUNR lhs 0 = (0x1ffff, FlagBit.divOvf.mask) ∧
    (2 * rhs.toNat ≤ lhs.toNat → divideUNR lhs rhs = (0x1ffff, FlagBit.divOvf.mask)) ∧
    (rhs ≠ 0 → divideUNR 0 rhs = (0, noFlags)) ∧
    (rhs ≠ 0 → (divideUNR rhs rhs).2 = noFlags ∧ (divideUNR rhs rhs).1 ∈ [0xffff, 0x10000, 0x10001])

/-- R105 item 4, R107: when the divisor is a power of two and the first overflow test does not fire, the approximation
and the exact divide both give the exact quotient, with no flag. -/
def Obligations.DivideIsExactAtPowersOfTwo : Prop :=
  ∀ (k : Nat) (lhs : BitVec 16), k < 16 → lhs.toNat < 2 * 2 ^ k →
    divideUNR lhs (BitVec.ofNat 16 (2 ^ k)) = (lhs.toNat * 2 ^ (16 - k), noFlags) ∧
      divide lhs (BitVec.ofNat 16 (2 ^ k)) = (lhs.toNat * 2 ^ (16 - k), noFlags)

/-- R105 item 2, R104: for a fixed divisor the quotient does not decrease as the dividend grows, once it overflows it
stays so, and it never exceeds 0x1ffff. -/
def Obligations.DivideIsMonotoneInTheDividend : Prop :=
  ∀ a b rhs : BitVec 16, a.toNat ≤ b.toNat →
    (divideUNR a rhs).1 ≤ (divideUNR b rhs).1 ∧ (divideUNR b rhs).1 ≤ 0x1ffff ∧
      ((divideUNR a rhs).2 = FlagBit.divOvf.mask → (divideUNR b rhs).2 = FlagBit.divOvf.mask)

/-- R105 item 3: the second overflow exit. A divide that passes the first test and yet overflows has `rhs` in
[29122, 32544] and `lhs` = 2 * `rhs` - 1, and its un-clamped quotient is 0x20000; such a pair is (0xE383, 0x71C2),
where the exact divide gives 0x1fffe without overflow. -/
def Obligations.SecondOverflowExitIsReachable : Prop :=
  (∀ lhs rhs : BitVec 16, lhs.toNat < 2 * rhs.toNat → (divideUNR lhs rhs).2 ≠ noFlags →
    29122 ≤ rhs.toNat ∧ rhs.toNat ≤ 32544 ∧ lhs.toNat = 2 * rhs.toNat - 1 ∧
      (lhs.toNat * 2 ^ clz16 rhs * recipUNR (rhs.toNat * 2 ^ clz16 rhs) + 0x8000) / 65536 = 0x20000) ∧
    divideUNR 0xE383 0x71C2 = (0x1ffff, FlagBit.divOvf.mask) ∧ divide 0xE383 0x71C2 = (0x1fffe, noFlags)

/-- R106: without overflow, the exact divide gives `lhs * 0x10000 / rhs` rounded to nearest, half up. -/
def Obligations.ExactDivideRoundsToNearest : Prop :=
  ∀ lhs rhs : BitVec 16, lhs.toNat < 2 * rhs.toNat → (divide lhs rhs).2 = noFlags →
    lhs.toNat * 0x20000 < (2 * (divide lhs rhs).1 + 1) * rhs.toNat ∧
      2 * (divide lhs rhs).1 * rhs.toNat ≤ lhs.toNat * 0x20000 + rhs.toNat

/-! ### Geometry commands (42_geometry) -/

/-- R111: `nclip` stores twice the signed area of the screen triangle in `MAC[0]`, flags the sum's 32-bit overflow, and
changes nothing else but the latches; swapping the last two points negates the sum. -/
def Obligations.NclipStoresTheSignedArea : Prop :=
  ∀ (sf lm : Bool) (s : State),
    let area : State → Int := fun s =>
      s.sxy.e0.x.toInt * (s.sxy.e1.y.toInt - s.sxy.e2.y.toInt) +
        s.sxy.e1.x.toInt * (s.sxy.e2.y.toInt - s.sxy.e0.y.toInt) +
        s.sxy.e2.x.toInt * (s.sxy.e0.y.toInt - s.sxy.e1.y.toInt)
    (∃ f, exec (.nclip sf lm) s =
        .next { s with sf := sf, lm := lm, mac0 := BitVec.ofInt 32 (area s), flag := f } ∧
      ∀ b, hasBit f b = (s.flagged b || (decide (area s > 2147483647) && decide (b = .mac0Pos)) ||
        (decide (area s < -2147483648) && decide (b = .mac0Neg)))) ∧
    area { s with sxy := ⟨s.sxy.e0, s.sxy.e2, s.sxy.e1⟩ } = -area s

/-- R111 corner cases: on screen points that commands produced, the area is at most 6 * 2^20 in magnitude, `MAC[0]` is
exact and no flag changes. -/
def Obligations.NclipOfProjectedPointsIsExact : Prop :=
  ∀ (sf lm : Bool) (s : State), CommandRanges s → ∃ m : BitVec 32,
    exec (.nclip sf lm) s = .next { s with sf := sf, lm := lm, mac0 := m } ∧
      m.toInt = s.sxy.e0.x.toInt * s.sxy.e1.y.toInt + s.sxy.e1.x.toInt * s.sxy.e2.y.toInt +
        s.sxy.e2.x.toInt * s.sxy.e0.y.toInt - s.sxy.e0.x.toInt * s.sxy.e2.y.toInt -
        s.sxy.e1.x.toInt * s.sxy.e0.y.toInt - s.sxy.e2.x.toInt * s.sxy.e1.y.toInt ∧
      -6291456 ≤ m.toInt ∧ m.toInt ≤ 6291456

/-- R114, R115, R88: `avsz3` and `avsz4` store the scaled sum of the three newest, or all four, screen Z in `MAC[0]`,
and the un-truncated sum shifted by 12 and clamped to [0, 0xffff] in `OTZ`, with their flags; nothing else changes
but the latches. -/
def Obligations.AverageZStoresTheScaledSum : Prop :=
  ∀ (sf lm : Bool) (s : State),
    let after : Int → FlagSet → State := fun v f =>
      { s with
        sf := sf, lm := lm, mac0 := BitVec.ofInt 32 v, otz := BitVec.ofInt 16 (sat 0 65535 (v / 4096)), flag := f }
    let raises : Int → FlagBit → Bool := fun v b =>
      (decide (v > 2147483647) && decide (b = .mac0Pos)) || (decide (v < -2147483648) && decide (b = .mac0Neg)) ||
        (decide (v / 4096 > 65535 ∨ v / 4096 < 0) && decide (b = .sz3OtzSat))
    let v3 : Int := s.ctrl.zsf3.toInt * (s.sz.e1.toNat + s.sz.e2.toNat + s.sz.e3.toNat : Nat)
    let v4 : Int := s.ctrl.zsf4.toInt * (s.sz.e0.toNat + s.sz.e1.toNat + s.sz.e2.toNat + s.sz.e3.toNat : Nat)
    (∃ f, exec (.avsz3 sf lm) s = .next (after v3 f) ∧ ∀ b, hasBit f b = (s.flagged b || raises v3 b)) ∧
    (∃ f, exec (.avsz4 sf lm) s = .next (after v4 f) ∧ ∀ b, hasBit f b = (s.flagged b || raises v4 b))

/-- R112: the whole of `rtps`: every register it writes, every flag bit, and nothing else. `c` are the three
transformed sums, `z` the Z pushed, `q` the quotient of the divide by it, `x`, `y` the screen sums and `d` the
depth-cue sum. `IR[3]` is the clamp of the shifted sum for `sf` = 1 and of the unshifted one for `sf` = 0, where
`IR3_SAT` is instead the test of `s3 >> 12` against [-0x8000, 0x7fff]. -/
def Obligations.RtpsTransformsAndProjects : Prop :=
  ∀ (sf lm : Bool) (s : State),
    let c := transformSums s .v0
    let z : BitVec 16 := BitVec.ofInt 16 (sat 0 65535 (c.z / 4096))
    let q : Int := ((divideUNR s.ctrl.h z).1 : Int)
    let x : Int := q * irInt sf lm c.x + s.ctrl.ofx.toInt
    let y : Int := q * irInt sf lm c.y + s.ctrl.ofy.toInt
    let d : Int := q * s.ctrl.dqa.toInt + s.ctrl.dqb.toInt
    let point : ScreenXY :=
      ⟨BitVec.ofInt 16 (sat (-1024) 1023 (x / 65536)), BitVec.ofInt 16 (sat (-1024) 1023 (y / 65536))⟩
    let z3Out : Bool :=
      if sf then irClamped true lm c.z else decide (c.z / 4096 > 32767 ∨ c.z / 4096 < -32768)
    ∃ f,
      exec (.rtps sf lm) s =
        .next { s with
          sf := sf, lm := lm
          mac := macTriple sf c
          ir := regs16 (irInts sf lm c)
          sz := ⟨s.sz.e1, s.sz.e2, s.sz.e3, z⟩
          sxy := ⟨s.sxy.e1, s.sxy.e2, point⟩
          mac0 := BitVec.ofInt 32 d
          ir0 := BitVec.ofInt 16 (sat 0 4096 (d / 4096))
          flag := f } ∧
      ∀ b, hasBit f b =
        (s.flagged b || laneRaises .one sf lm c.x b || laneRaises .two sf lm c.y b ||
          (over44 c.z && decide (b = .mac3Pos)) || (under44 c.z && decide (b = .mac3Neg)) ||
          (z3Out && decide (b = .ir3Sat)) ||
          (decide (c.z / 4096 > 65535 ∨ c.z / 4096 < 0) && decide (b = .sz3OtzSat)) ||
          hasBit (divideUNR s.ctrl.h z).2 b ||
          (decide (x > 2147483647 ∨ y > 2147483647 ∨ d > 2147483647) && decide (b = .mac0Pos)) ||
          (decide (x < -2147483648 ∨ y < -2147483648 ∨ d < -2147483648) && decide (b = .mac0Neg)) ||
          (decide (x / 65536 > 1023 ∨ x / 65536 < -1024) && decide (b = .sx2Sat)) ||
          (decide (y / 65536 > 1023 ∨ y / 65536 < -1024) && decide (b = .sy2Sat)) ||
          (decide (d / 4096 > 4096 ∨ d / 4096 < 0) && decide (b = .ir0Sat)))

/-- R116 items 1 to 3: after `rtps` with `sf` = 1 and no `MAC3` overflow, `SZ[3]` is the stored `MAC[3]` clamped to
[0, 0xffff]; with `sf` = 0 it is so for `MAC[3] >> 12` when the sum fits 32 bits; and from a clear FLAG, `IR3_SAT` is
set exactly as item 3 says. -/
def Obligations.RtpsScreenZFollowsTheAccumulator : Prop :=
  ∀ (lm : Bool) (s : State), s.flag = 0 →
    let s3 := (transformSums s .v0).z
    (∃ t, exec (.rtps true lm) s = .next t ∧
      (t.flagged .mac3Pos = false → t.flagged .mac3Neg = false →
        (t.sz.e3.toNat : Int) = sat 0 65535 t.mac.z.toInt) ∧
      (t.flagged .ir3Sat = true ↔ s3 / 4096 > 32767 ∨ s3 / 4096 < if lm then 0 else -32768)) ∧
    (∃ t, exec (.rtps false lm) s = .next t ∧
      (t.sz.e3.toNat : Int) = sat 0 65535 (s3 / 4096) ∧
      (-2147483648 ≤ s3 → s3 ≤ 2147483647 → (t.sz.e3.toNat : Int) = sat 0 65535 (t.mac.z.toInt / 4096)) ∧
      (t.flagged .ir3Sat = true ↔ s3 / 4096 > 32767 ∨ s3 / 4096 < -32768))

/-- R116 item 4: `rtps` reads neither `IR`, `MAC`, the colour registers nor `OTZ`, and the FIFOs only through their
shift: two states that agree on `V[0]` and the control registers get the same new values from it. -/
def Obligations.RtpsIgnoresOldResults : Prop :=
  ∀ (sf lm : Bool) (s s' : State), s.v.v0 = s'.v.v0 → s.ctrl = s'.ctrl → ∃ t t',
    exec (.rtps sf lm) s = .next t ∧ exec (.rtps sf lm) s' = .next t' ∧
      t.mac0 = t'.mac0 ∧ t.mac = t'.mac ∧ t.ir0 = t'.ir0 ∧ t.ir = t'.ir ∧ t.sz.e3 = t'.sz.e3 ∧
      t.sxy.e2 = t'.sxy.e2 ∧ ∃ g, t.flag = s.flag ||| g ∧ t'.flag = s'.flag ||| g

/-- R113: `rtpt` is `rtps` on the three vertices: `SZ[0]` is the old `SZ[3]`, `SZ[1..3]` and the screen points 0 to 2
are those that `rtps` gives each vertex, the accumulators are the last vertex's, and FLAG is the union. -/
def Obligations.RtptProjectsThreeVertices : Prop :=
  ∀ (sf lm : Bool) (s : State), ∃ t0 t1 t2 : State,
    exec (.rtps sf lm) s = .next t0 ∧
    exec (.rtps sf lm) { s with v := { s.v with v0 := s.v.v1 } } = .next t1 ∧
    exec (.rtps sf lm) { s with v := { s.v with v0 := s.v.v2 } } = .next t2 ∧
    exec (.rtpt sf lm) s =
      .next { s with
        sf := sf, lm := lm, mac0 := t2.mac0, mac := t2.mac, ir0 := t2.ir0, ir := t2.ir
        sz := ⟨s.sz.e3, t0.sz.e3, t1.sz.e3, t2.sz.e3⟩
        sxy := ⟨t0.sxy.e2, t1.sxy.e2, t2.sxy.e2⟩
        flag := t0.flag ||| t1.flag ||| t2.flag }

/-- R68, R155: `sf` and `lm` have no effect on `nclip`, `avsz3`, `avsz4` but for the latches, and `lm` none on `sqr`. -/
def Obligations.ControlBitsWithoutEffect : Prop :=
  ∀ (sf lm sf' lm' : Bool) (s : State), ∃ a b c d,
    exec (.nclip sf lm) s = .next a ∧ exec (.nclip sf' lm') s = .next (a.withLatches sf' lm') ∧
    exec (.avsz3 sf lm) s = .next b ∧ exec (.avsz3 sf' lm') s = .next (b.withLatches sf' lm') ∧
    exec (.avsz4 sf lm) s = .next c ∧ exec (.avsz4 sf' lm') s = .next (c.withLatches sf' lm') ∧
    exec (.sqr sf lm) s = .next d ∧ exec (.sqr sf lm') s = .next (d.withLatches sf lm')

/-! ### Lighting commands (43_lighting) -/

/-- R120 to R122, R128, R91: `ncs` lights vertex 0: the light-vector stage, then the light-colour stage on the clamped
result, then the colour push, with the flags of all three; nothing else changes but the latches. -/
def Obligations.NcsLightsVertexZero : Prop :=
  ∀ (sf lm : Bool) (s : State),
    let a := lightSums s .v0
    let b := colourSums s (irInts sf lm a)
    ∃ f,
      exec (.ncs sf lm) s =
        .next { s with
          sf := sf, lm := lm, mac := macTriple sf b, ir := regs16 (irInts sf lm b)
          rgb := pushedColour s.rgb (colourOf (macTriple sf b) s.rgbc.code), flag := f } ∧
      ∀ k, hasBit f k = (s.flagged k || tripleRaises sf lm a k || tripleRaises sf lm b k ||
        colourRaises (macTriple sf b) k)

/-- R124, R131, R129: `nccs` adds the product with the input colour; `cc` is the same from the `IR[1..3]` present at
entry. -/
def Obligations.NccsAndCcModulateTheLitColour : Prop :=
  ∀ (sf lm : Bool) (s : State),
    let after : Vec3 Int → FlagSet → State := fun m f =>
      { s with
        sf := sf, lm := lm, mac := macTriple sf m, ir := regs16 (irInts sf lm m)
        rgb := pushedColour s.rgb (colourOf (macTriple sf m) s.rgbc.code), flag := f }
    let a := lightSums s .v0
    let b := colourSums s (irInts sf lm a)
    let m := productSums s (irInts sf lm b)
    let b' := colourSums s (ints s.ir)
    let m' := productSums s (irInts sf lm b')
    (∃ f, exec (.nccs sf lm) s = .next (after m f) ∧
      ∀ k, hasBit f k = (s.flagged k || tripleRaises sf lm a k || tripleRaises sf lm b k || tripleRaises sf lm m k ||
        colourRaises (macTriple sf m) k)) ∧
    (∃ f, exec (.cc sf lm) s = .next (after m' f) ∧
      ∀ k, hasBit f k = (s.flagged k || tripleRaises sf lm b' k || tripleRaises sf lm m' k ||
        colourRaises (macTriple sf m') k))

/-- R126, R132, R94, R130: `ncds` blends the lit colour toward the far colour by `IR[0]`, the difference being clamped
with `lm` = 0; `cdp` is the same from the `IR[1..3]` present at entry. -/
def Obligations.NcdsAndCdpCueTheLitColour : Prop :=
  ∀ (sf lm : Bool) (s : State),
    let after : Vec3 Int → FlagSet → State := fun m f =>
      { s with
        sf := sf, lm := lm, mac := macTriple sf m, ir := regs16 (irInts sf lm m)
        rgb := pushedColour s.rgb (colourOf (macTriple sf m) s.rgbc.code), flag := f }
    let a := lightSums s .v0
    let b := colourSums s (irInts sf lm a)
    let p := productSums s (irInts sf lm b)
    let b' := colourSums s (ints s.ir)
    let p' := productSums s (irInts sf lm b')
    (∃ f, exec (.ncds sf lm) s = .next (after (interpolated s sf p) f) ∧
      ∀ k, hasBit f k = (s.flagged k || tripleRaises sf lm a k || tripleRaises sf lm b k ||
        tripleRaises sf false (differenceSums s p) k || tripleRaises sf lm (interpolated s sf p) k ||
        colourRaises (macTriple sf (interpolated s sf p)) k)) ∧
    (∃ f, exec (.cdp sf lm) s = .next (after (interpolated s sf p') f) ∧
      ∀ k, hasBit f k = (s.flagged k || tripleRaises sf lm b' k ||
        tripleRaises sf false (differenceSums s p') k || tripleRaises sf lm (interpolated s sf p') k ||
        colourRaises (macTriple sf (interpolated s sf p')) k))

/-- R123, R125, R127, R133: each triple lighting command is its single-vertex command on the three vertices: the three
colours in order, the last vertex's accumulators, and the union of the flags. -/
def Obligations.TripleLightingIsThreeSingles : Prop :=
  ∀ (sf lm : Bool) (s : State),
    ∀ p ∈ [(Instr.ncs sf lm, Instr.nct sf lm), (.nccs sf lm, .ncct sf lm), (.ncds sf lm, .ncdt sf lm)],
      ∃ t0 t1 t2 : State,
        exec p.1 s = .next t0 ∧
        exec p.1 { s with v := { s.v with v0 := s.v.v1 } } = .next t1 ∧
        exec p.1 { s with v := { s.v with v0 := s.v.v2 } } = .next t2 ∧
        exec p.2 s =
          .next { s with
            sf := sf, lm := lm, mac := t2.mac, ir := t2.ir, rgb := ⟨t0.rgb.e2, t1.rgb.e2, t2.rgb.e2⟩
            flag := t0.flag ||| t1.flag ||| t2.flag }

/-- R120, R121, R128, R133, R138, R148, R149: the pipeline commands are compositions of commands. The light-vector stage is
`mvmva` of the light matrix, vertex 0 and no translation; after it `cc` completes `nccs` and `cdp` completes `ncds`;
and after the light-colour stage, `mvmva` of the light-colour matrix, the IR triple and the background, `dcpl`
completes `cdp`. -/
def Obligations.LightingCommandsComposeFromStages : Prop :=
  ∀ (sf lm : Bool) (s : State), ∃ a b,
    exec (.mvmva sf lm .llm .v0 .zero) s = .next a ∧ exec (.mvmva sf lm .lcm .ir .bk) s = .next b ∧
      exec (.nccs sf lm) s = exec (.cc sf lm) a ∧
      exec (.ncds sf lm) s = exec (.cdp sf lm) a ∧
      exec (.cdp sf lm) s = exec (.dcpl sf lm) b

/-- R133: with `IR[0]` = 0, `ncds` leaves the same `MAC[1..3]`, `IR[1..3]` and pushed colour as `nccs`, and raises at
least its flags. -/
def Obligations.NcdsWithZeroFactorMatchesNccs : Prop :=
  ∀ (sf lm : Bool) (s : State), s.ir0 = 0 → ∃ t u,
    exec (.nccs sf lm) s = .next t ∧ exec (.ncds sf lm) s = .next u ∧
      u = { t with flag := u.flag } ∧ ∀ b, t.flagged b = true → u.flagged b = true

/-! ### Depth-cue commands (44_depthcue) -/

/-- R135, R136, R138, R139: `dpcs`, `dcpl` and `intpl` each blend their own source, the input colour, the lit colour or
the `IR` triple, toward the far colour by `IR[0]`, and push the result with the code of `RGBC`. -/
def Obligations.DepthCueBlendsItsSource : Prop :=
  ∀ (sf lm : Bool) (s : State),
    ∀ p ∈ [(Instr.dpcs sf lm, colourTimes65536 s.rgbc), (.dcpl sf lm, productSums s (ints s.ir)),
        (.intpl sf lm, (⟨s.ir.x.toInt * 4096, s.ir.y.toInt * 4096, s.ir.z.toInt * 4096⟩ : Vec3 Int))],
      let m := interpolated s sf p.2
      ∃ f,
        exec p.1 s =
          .next { s with
            sf := sf, lm := lm, mac := macTriple sf m, ir := regs16 (irInts sf lm m)
            rgb := pushedColour s.rgb (colourOf (macTriple sf m) s.rgbc.code), flag := f } ∧
        ∀ k, hasBit f k = (s.flagged k || tripleRaises sf false (differenceSums s p.2) k ||
          tripleRaises sf lm m k || colourRaises (macTriple sf m) k)

/-- R137: `dpct` is `dpcs` on each of the three FIFO colours, oldest first, every pushed code being that of `RGBC`. -/
def Obligations.DpctCuesTheThreeFifoColours : Prop :=
  ∀ (sf lm : Bool) (s : State), ∃ t0 t1 t2 : State,
    exec (.dpcs sf lm) { s with rgbc := { s.rgb.e0 with code := s.rgbc.code } } = .next t0 ∧
    exec (.dpcs sf lm) { s with rgbc := { s.rgb.e1 with code := s.rgbc.code } } = .next t1 ∧
    exec (.dpcs sf lm) { s with rgbc := { s.rgb.e2 with code := s.rgbc.code } } = .next t2 ∧
    exec (.dpct sf lm) s =
      .next { s with
        sf := sf, lm := lm, mac := t2.mac, ir := t2.ir, rgb := ⟨t0.rgb.e2, t1.rgb.e2, t2.rgb.e2⟩
        flag := t0.flag ||| t1.flag ||| t2.flag }

/-- R136 and R139 corner cases: with `IR[0]` = 0 and `sf` = 1, `dpcs` reproduces the input colour, channel times 16 in
`MAC` and the colour itself in the FIFO, and `intpl` with `lm` = 0 leaves `IR[1..3]` as they are. -/
def Obligations.ZeroFactorReproducesTheSource : Prop :=
  ∀ (lm : Bool) (s : State), s.ir0 = 0 → ∃ t u,
    exec (.dpcs true lm) s = .next t ∧ t.rgb = ⟨s.rgb.e1, s.rgb.e2, s.rgbc⟩ ∧
      ints t.mac = ⟨(s.rgbc.r.toNat : Int) * 16, (s.rgbc.g.toNat : Int) * 16, (s.rgbc.b.toNat : Int) * 16⟩ ∧
      exec (.intpl true false) s = .next u ∧ u.ir = s.ir ∧ ints u.mac = ints s.ir

/-! ### General commands (45_general) -/

/-- R148 to R150: `mvmva` with any matrix, any vector and a translation other than the far colour: every register and
every flag bit, and nothing else but the latches. The fourth matrix covers both values of the parameter (log 5). -/
def Obligations.MvmvaMultipliesAndTranslates : Prop :=
  ∀ (sf lm : Bool) (mx : MatrixSel) (vx : VectorSel) (tx : TranslationSel) (s : State), tx ≠ .fc →
    let c := matrixSums (namedMatrix s mx) (namedVector s vx) (namedTranslation s tx)
    ∃ f,
      exec (.mvmva sf lm mx vx tx) s =
        .next { s with sf := sf, lm := lm, mac := macTriple sf c, ir := regs16 (irInts sf lm c), flag := f } ∧
      ∀ k, hasBit f k = (s.flagged k || tripleRaises sf lm c k)

/-- R151: `mvmva` with the far-colour translation stores only the last two columns' products, while its flags come from
both the discarded sum of the far colour and the first column, clamped with `lm` = 0, and the stored one. -/
def Obligations.MvmvaFarColourDiscardsTheFirstColumn : Prop :=
  ∀ (sf lm : Bool) (mx : MatrixSel) (vx : VectorSel) (s : State),
    let m := namedMatrix s mx
    let v := namedVector s vx
    let flagSums : Vec3 Int :=
      ⟨s.ctrl.fc.x.toInt * 4096 + m.r1.x * v.x, s.ctrl.fc.y.toInt * 4096 + m.r2.x * v.x,
        s.ctrl.fc.z.toInt * 4096 + m.r3.x * v.x⟩
    let c : Vec3 Int := ⟨m.r1.y * v.y + m.r1.z * v.z, m.r2.y * v.y + m.r2.z * v.z, m.r3.y * v.y + m.r3.z * v.z⟩
    ∃ f,
      exec (.mvmva sf lm mx vx .fc) s =
        .next { s with sf := sf, lm := lm, mac := macTriple sf c, ir := regs16 (irInts sf lm c), flag := f } ∧
      ∀ k, hasBit f k = (s.flagged k || tripleRaises sf false flagSums k || tripleRaises sf lm c k)

/-- R148 corner cases: `mvmva` with the rotation matrix, vertex 0 and the translation vector computes the same
`MAC[1..3]`, `IR[1]` and `IR[2]` as `rtps`, and the same `IR[3]` when `sf` = 1. -/
def Obligations.MvmvaMatchesTheTransformOfRtps : Prop :=
  ∀ (sf lm : Bool) (s : State), ∃ t u,
    exec (.mvmva sf lm .rt .v0 .tr) s = .next t ∧ exec (.rtps sf lm) s = .next u ∧
      t.mac = u.mac ∧ t.ir.x = u.ir.x ∧ t.ir.y = u.ir.y ∧ (sf = true → t.ir.z = u.ir.z)

/-- R153, R154: `gpf` stores `IR[0]` times the `IR` triple, `gpl` adds it to the stored `MAC[1..3]`, pre-shifted by 12
only when `sf` is set; both push the colour. -/
def Obligations.GpfAndGplScaleTheIrTriple : Prop :=
  ∀ (sf lm : Bool) (s : State),
    let scale : Int := if sf then 4096 else 1
    let g : Vec3 Int := ⟨s.ir0.toInt * s.ir.x.toInt, s.ir0.toInt * s.ir.y.toInt, s.ir0.toInt * s.ir.z.toInt⟩
    let l : Vec3 Int :=
      ⟨s.mac.x.toInt * scale + g.x, s.mac.y.toInt * scale + g.y, s.mac.z.toInt * scale + g.z⟩
    ∀ p ∈ [(Instr.gpf sf lm, g), (.gpl sf lm, l)], ∃ f,
      exec p.1 s =
        .next { s with
          sf := sf, lm := lm, mac := macTriple sf p.2, ir := regs16 (irInts sf lm p.2)
          rgb := pushedColour s.rgb (colourOf (macTriple sf p.2) s.rgbc.code), flag := f } ∧
      ∀ k, hasBit f k = (s.flagged k || tripleRaises sf lm p.2 k || colourRaises (macTriple sf p.2) k)

/-- R155, R156: `sqr` stores the squares of `IR[1..3]`; `op` stores the cross product of the rotation matrix's diagonal
and `IR[1..3]`; neither pushes a colour nor raises an accumulator flag, and the result fits `MAC[1..3]` exactly. -/
def Obligations.SqrAndOpMultiplyTheIrTriple : Prop :=
  ∀ (sf lm : Bool) (s : State),
    let v := ints s.ir
    let d : Vec3 Int := ⟨s.ctrl.rt.r1.x.toInt, s.ctrl.rt.r2.y.toInt, s.ctrl.rt.r3.z.toInt⟩
    ∀ p ∈ [(Instr.sqr sf lm, (⟨v.x * v.x, v.y * v.y, v.z * v.z⟩ : Vec3 Int)),
        (.op sf lm, ⟨d.y * v.z - d.z * v.y, d.z * v.x - d.x * v.z, d.x * v.y - d.y * v.x⟩)],
      ∃ f m,
        exec p.1 s = .next { s with sf := sf, lm := lm, mac := m, ir := regs16 (irInts sf lm p.2), flag := f } ∧
        ints m = ⟨scaled sf p.2.x, scaled sf p.2.y, scaled sf p.2.z⟩ ∧
        ∀ k, hasBit f k = (s.flagged k || (irClamped sf lm p.2.x && decide (k = .ir1Sat)) ||
          (irClamped sf lm p.2.y && decide (k = .ir2Sat)) || (irClamped sf lm p.2.z && decide (k = .ir3Sat)))
end

