-- ==== Sys2Proof/Laws/State.lean ====
section
/-! SUPPORT. One lemma per field per named update of State: what each update leaves in each field. Later proofs cite
these (they are simp lemmas) and never unfold a record update. -/

namespace Sys2Proof.Machine

variable (s : State)

@[simp] theorem State.withV_v (x : Vertices) : (s.withV x).v = x := rfl
@[simp] theorem State.withV_rgbc (x : Vertices) : (s.withV x).rgbc = s.rgbc := rfl
@[simp] theorem State.withV_otz (x : Vertices) : (s.withV x).otz = s.otz := rfl
@[simp] theorem State.withV_ir0 (x : Vertices) : (s.withV x).ir0 = s.ir0 := rfl
@[simp] theorem State.withV_ir (x : Vertices) : (s.withV x).ir = s.ir := rfl
@[simp] theorem State.withV_sxy (x : Vertices) : (s.withV x).sxy = s.sxy := rfl
@[simp] theorem State.withV_sz (x : Vertices) : (s.withV x).sz = s.sz := rfl
@[simp] theorem State.withV_rgb (x : Vertices) : (s.withV x).rgb = s.rgb := rfl
@[simp] theorem State.withV_mac0 (x : Vertices) : (s.withV x).mac0 = s.mac0 := rfl
@[simp] theorem State.withV_mac (x : Vertices) : (s.withV x).mac = s.mac := rfl
@[simp] theorem State.withV_ctrl (x : Vertices) : (s.withV x).ctrl = s.ctrl := rfl
@[simp] theorem State.withV_flag (x : Vertices) : (s.withV x).flag = s.flag := rfl
@[simp] theorem State.withV_sf (x : Vertices) : (s.withV x).sf = s.sf := rfl
@[simp] theorem State.withV_lm (x : Vertices) : (s.withV x).lm = s.lm := rfl
@[simp] theorem State.withV_mx3Const60 (x : Vertices) : (s.withV x).mx3Const60 = s.mx3Const60 := rfl
@[simp] theorem State.withV_pending (x : Vertices) : (s.withV x).pending = s.pending := rfl
@[simp] theorem State.withV_replies (x : Vertices) : (s.withV x).replies = s.replies := rfl

@[simp] theorem State.withRgbc_v (x : Color) : (s.withRgbc x).v = s.v := rfl
@[simp] theorem State.withRgbc_rgbc (x : Color) : (s.withRgbc x).rgbc = x := rfl
@[simp] theorem State.withRgbc_otz (x : Color) : (s.withRgbc x).otz = s.otz := rfl
@[simp] theorem State.withRgbc_ir0 (x : Color) : (s.withRgbc x).ir0 = s.ir0 := rfl
@[simp] theorem State.withRgbc_ir (x : Color) : (s.withRgbc x).ir = s.ir := rfl
@[simp] theorem State.withRgbc_sxy (x : Color) : (s.withRgbc x).sxy = s.sxy := rfl
@[simp] theorem State.withRgbc_sz (x : Color) : (s.withRgbc x).sz = s.sz := rfl
@[simp] theorem State.withRgbc_rgb (x : Color) : (s.withRgbc x).rgb = s.rgb := rfl
@[simp] theorem State.withRgbc_mac0 (x : Color) : (s.withRgbc x).mac0 = s.mac0 := rfl
@[simp] theorem State.withRgbc_mac (x : Color) : (s.withRgbc x).mac = s.mac := rfl
@[simp] theorem State.withRgbc_ctrl (x : Color) : (s.withRgbc x).ctrl = s.ctrl := rfl
@[simp] theorem State.withRgbc_flag (x : Color) : (s.withRgbc x).flag = s.flag := rfl
@[simp] theorem State.withRgbc_sf (x : Color) : (s.withRgbc x).sf = s.sf := rfl
@[simp] theorem State.withRgbc_lm (x : Color) : (s.withRgbc x).lm = s.lm := rfl
@[simp] theorem State.withRgbc_mx3Const60 (x : Color) : (s.withRgbc x).mx3Const60 = s.mx3Const60 := rfl
@[simp] theorem State.withRgbc_pending (x : Color) : (s.withRgbc x).pending = s.pending := rfl
@[simp] theorem State.withRgbc_replies (x : Color) : (s.withRgbc x).replies = s.replies := rfl

@[simp] theorem State.withOtz_v (x : BitVec 16) : (s.withOtz x).v = s.v := rfl
@[simp] theorem State.withOtz_rgbc (x : BitVec 16) : (s.withOtz x).rgbc = s.rgbc := rfl
@[simp] theorem State.withOtz_otz (x : BitVec 16) : (s.withOtz x).otz = x := rfl
@[simp] theorem State.withOtz_ir0 (x : BitVec 16) : (s.withOtz x).ir0 = s.ir0 := rfl
@[simp] theorem State.withOtz_ir (x : BitVec 16) : (s.withOtz x).ir = s.ir := rfl
@[simp] theorem State.withOtz_sxy (x : BitVec 16) : (s.withOtz x).sxy = s.sxy := rfl
@[simp] theorem State.withOtz_sz (x : BitVec 16) : (s.withOtz x).sz = s.sz := rfl
@[simp] theorem State.withOtz_rgb (x : BitVec 16) : (s.withOtz x).rgb = s.rgb := rfl
@[simp] theorem State.withOtz_mac0 (x : BitVec 16) : (s.withOtz x).mac0 = s.mac0 := rfl
@[simp] theorem State.withOtz_mac (x : BitVec 16) : (s.withOtz x).mac = s.mac := rfl
@[simp] theorem State.withOtz_ctrl (x : BitVec 16) : (s.withOtz x).ctrl = s.ctrl := rfl
@[simp] theorem State.withOtz_flag (x : BitVec 16) : (s.withOtz x).flag = s.flag := rfl
@[simp] theorem State.withOtz_sf (x : BitVec 16) : (s.withOtz x).sf = s.sf := rfl
@[simp] theorem State.withOtz_lm (x : BitVec 16) : (s.withOtz x).lm = s.lm := rfl
@[simp] theorem State.withOtz_mx3Const60 (x : BitVec 16) : (s.withOtz x).mx3Const60 = s.mx3Const60 := rfl
@[simp] theorem State.withOtz_pending (x : BitVec 16) : (s.withOtz x).pending = s.pending := rfl
@[simp] theorem State.withOtz_replies (x : BitVec 16) : (s.withOtz x).replies = s.replies := rfl

@[simp] theorem State.withIr0_v (x : BitVec 16) : (s.withIr0 x).v = s.v := rfl
@[simp] theorem State.withIr0_rgbc (x : BitVec 16) : (s.withIr0 x).rgbc = s.rgbc := rfl
@[simp] theorem State.withIr0_otz (x : BitVec 16) : (s.withIr0 x).otz = s.otz := rfl
@[simp] theorem State.withIr0_ir0 (x : BitVec 16) : (s.withIr0 x).ir0 = x := rfl
@[simp] theorem State.withIr0_ir (x : BitVec 16) : (s.withIr0 x).ir = s.ir := rfl
@[simp] theorem State.withIr0_sxy (x : BitVec 16) : (s.withIr0 x).sxy = s.sxy := rfl
@[simp] theorem State.withIr0_sz (x : BitVec 16) : (s.withIr0 x).sz = s.sz := rfl
@[simp] theorem State.withIr0_rgb (x : BitVec 16) : (s.withIr0 x).rgb = s.rgb := rfl
@[simp] theorem State.withIr0_mac0 (x : BitVec 16) : (s.withIr0 x).mac0 = s.mac0 := rfl
@[simp] theorem State.withIr0_mac (x : BitVec 16) : (s.withIr0 x).mac = s.mac := rfl
@[simp] theorem State.withIr0_ctrl (x : BitVec 16) : (s.withIr0 x).ctrl = s.ctrl := rfl
@[simp] theorem State.withIr0_flag (x : BitVec 16) : (s.withIr0 x).flag = s.flag := rfl
@[simp] theorem State.withIr0_sf (x : BitVec 16) : (s.withIr0 x).sf = s.sf := rfl
@[simp] theorem State.withIr0_lm (x : BitVec 16) : (s.withIr0 x).lm = s.lm := rfl
@[simp] theorem State.withIr0_mx3Const60 (x : BitVec 16) : (s.withIr0 x).mx3Const60 = s.mx3Const60 := rfl
@[simp] theorem State.withIr0_pending (x : BitVec 16) : (s.withIr0 x).pending = s.pending := rfl
@[simp] theorem State.withIr0_replies (x : BitVec 16) : (s.withIr0 x).replies = s.replies := rfl

@[simp] theorem State.withIr_v (x : Vec3 (BitVec 16)) : (s.withIr x).v = s.v := rfl
@[simp] theorem State.withIr_rgbc (x : Vec3 (BitVec 16)) : (s.withIr x).rgbc = s.rgbc := rfl
@[simp] theorem State.withIr_otz (x : Vec3 (BitVec 16)) : (s.withIr x).otz = s.otz := rfl
@[simp] theorem State.withIr_ir0 (x : Vec3 (BitVec 16)) : (s.withIr x).ir0 = s.ir0 := rfl
@[simp] theorem State.withIr_ir (x : Vec3 (BitVec 16)) : (s.withIr x).ir = x := rfl
@[simp] theorem State.withIr_sxy (x : Vec3 (BitVec 16)) : (s.withIr x).sxy = s.sxy := rfl
@[simp] theorem State.withIr_sz (x : Vec3 (BitVec 16)) : (s.withIr x).sz = s.sz := rfl
@[simp] theorem State.withIr_rgb (x : Vec3 (BitVec 16)) : (s.withIr x).rgb = s.rgb := rfl
@[simp] theorem State.withIr_mac0 (x : Vec3 (BitVec 16)) : (s.withIr x).mac0 = s.mac0 := rfl
@[simp] theorem State.withIr_mac (x : Vec3 (BitVec 16)) : (s.withIr x).mac = s.mac := rfl
@[simp] theorem State.withIr_ctrl (x : Vec3 (BitVec 16)) : (s.withIr x).ctrl = s.ctrl := rfl
@[simp] theorem State.withIr_flag (x : Vec3 (BitVec 16)) : (s.withIr x).flag = s.flag := rfl
@[simp] theorem State.withIr_sf (x : Vec3 (BitVec 16)) : (s.withIr x).sf = s.sf := rfl
@[simp] theorem State.withIr_lm (x : Vec3 (BitVec 16)) : (s.withIr x).lm = s.lm := rfl
@[simp] theorem State.withIr_mx3Const60 (x : Vec3 (BitVec 16)) : (s.withIr x).mx3Const60 = s.mx3Const60 := rfl
@[simp] theorem State.withIr_pending (x : Vec3 (BitVec 16)) : (s.withIr x).pending = s.pending := rfl
@[simp] theorem State.withIr_replies (x : Vec3 (BitVec 16)) : (s.withIr x).replies = s.replies := rfl

@[simp] theorem State.withSxy_v (x : Fifo3 ScreenXY) : (s.withSxy x).v = s.v := rfl
@[simp] theorem State.withSxy_rgbc (x : Fifo3 ScreenXY) : (s.withSxy x).rgbc = s.rgbc := rfl
@[simp] theorem State.withSxy_otz (x : Fifo3 ScreenXY) : (s.withSxy x).otz = s.otz := rfl
@[simp] theorem State.withSxy_ir0 (x : Fifo3 ScreenXY) : (s.withSxy x).ir0 = s.ir0 := rfl
@[simp] theorem State.withSxy_ir (x : Fifo3 ScreenXY) : (s.withSxy x).ir = s.ir := rfl
@[simp] theorem State.withSxy_sxy (x : Fifo3 ScreenXY) : (s.withSxy x).sxy = x := rfl
@[simp] theorem State.withSxy_sz (x : Fifo3 ScreenXY) : (s.withSxy x).sz = s.sz := rfl
@[simp] theorem State.withSxy_rgb (x : Fifo3 ScreenXY) : (s.withSxy x).rgb = s.rgb := rfl
@[simp] theorem State.withSxy_mac0 (x : Fifo3 ScreenXY) : (s.withSxy x).mac0 = s.mac0 := rfl
@[simp] theorem State.withSxy_mac (x : Fifo3 ScreenXY) : (s.withSxy x).mac = s.mac := rfl
@[simp] theorem State.withSxy_ctrl (x : Fifo3 ScreenXY) : (s.withSxy x).ctrl = s.ctrl := rfl
@[simp] theorem State.withSxy_flag (x : Fifo3 ScreenXY) : (s.withSxy x).flag = s.flag := rfl
@[simp] theorem State.withSxy_sf (x : Fifo3 ScreenXY) : (s.withSxy x).sf = s.sf := rfl
@[simp] theorem State.withSxy_lm (x : Fifo3 ScreenXY) : (s.withSxy x).lm = s.lm := rfl
@[simp] theorem State.withSxy_mx3Const60 (x : Fifo3 ScreenXY) : (s.withSxy x).mx3Const60 = s.mx3Const60 := rfl
@[simp] theorem State.withSxy_pending (x : Fifo3 ScreenXY) : (s.withSxy x).pending = s.pending := rfl
@[simp] theorem State.withSxy_replies (x : Fifo3 ScreenXY) : (s.withSxy x).replies = s.replies := rfl

@[simp] theorem State.withSz_v (x : Fifo4 (BitVec 16)) : (s.withSz x).v = s.v := rfl
@[simp] theorem State.withSz_rgbc (x : Fifo4 (BitVec 16)) : (s.withSz x).rgbc = s.rgbc := rfl
@[simp] theorem State.withSz_otz (x : Fifo4 (BitVec 16)) : (s.withSz x).otz = s.otz := rfl
@[simp] theorem State.withSz_ir0 (x : Fifo4 (BitVec 16)) : (s.withSz x).ir0 = s.ir0 := rfl
@[simp] theorem State.withSz_ir (x : Fifo4 (BitVec 16)) : (s.withSz x).ir = s.ir := rfl
@[simp] theorem State.withSz_sxy (x : Fifo4 (BitVec 16)) : (s.withSz x).sxy = s.sxy := rfl
@[simp] theorem State.withSz_sz (x : Fifo4 (BitVec 16)) : (s.withSz x).sz = x := rfl
@[simp] theorem State.withSz_rgb (x : Fifo4 (BitVec 16)) : (s.withSz x).rgb = s.rgb := rfl
@[simp] theorem State.withSz_mac0 (x : Fifo4 (BitVec 16)) : (s.withSz x).mac0 = s.mac0 := rfl
@[simp] theorem State.withSz_mac (x : Fifo4 (BitVec 16)) : (s.withSz x).mac = s.mac := rfl
@[simp] theorem State.withSz_ctrl (x : Fifo4 (BitVec 16)) : (s.withSz x).ctrl = s.ctrl := rfl
@[simp] theorem State.withSz_flag (x : Fifo4 (BitVec 16)) : (s.withSz x).flag = s.flag := rfl
@[simp] theorem State.withSz_sf (x : Fifo4 (BitVec 16)) : (s.withSz x).sf = s.sf := rfl
@[simp] theorem State.withSz_lm (x : Fifo4 (BitVec 16)) : (s.withSz x).lm = s.lm := rfl
@[simp] theorem State.withSz_mx3Const60 (x : Fifo4 (BitVec 16)) : (s.withSz x).mx3Const60 = s.mx3Const60 := rfl
@[simp] theorem State.withSz_pending (x : Fifo4 (BitVec 16)) : (s.withSz x).pending = s.pending := rfl
@[simp] theorem State.withSz_replies (x : Fifo4 (BitVec 16)) : (s.withSz x).replies = s.replies := rfl

@[simp] theorem State.withRgb_v (x : Fifo3 Color) : (s.withRgb x).v = s.v := rfl
@[simp] theorem State.withRgb_rgbc (x : Fifo3 Color) : (s.withRgb x).rgbc = s.rgbc := rfl
@[simp] theorem State.withRgb_otz (x : Fifo3 Color) : (s.withRgb x).otz = s.otz := rfl
@[simp] theorem State.withRgb_ir0 (x : Fifo3 Color) : (s.withRgb x).ir0 = s.ir0 := rfl
@[simp] theorem State.withRgb_ir (x : Fifo3 Color) : (s.withRgb x).ir = s.ir := rfl
@[simp] theorem State.withRgb_sxy (x : Fifo3 Color) : (s.withRgb x).sxy = s.sxy := rfl
@[simp] theorem State.withRgb_sz (x : Fifo3 Color) : (s.withRgb x).sz = s.sz := rfl
@[simp] theorem State.withRgb_rgb (x : Fifo3 Color) : (s.withRgb x).rgb = x := rfl
@[simp] theorem State.withRgb_mac0 (x : Fifo3 Color) : (s.withRgb x).mac0 = s.mac0 := rfl
@[simp] theorem State.withRgb_mac (x : Fifo3 Color) : (s.withRgb x).mac = s.mac := rfl
@[simp] theorem State.withRgb_ctrl (x : Fifo3 Color) : (s.withRgb x).ctrl = s.ctrl := rfl
@[simp] theorem State.withRgb_flag (x : Fifo3 Color) : (s.withRgb x).flag = s.flag := rfl
@[simp] theorem State.withRgb_sf (x : Fifo3 Color) : (s.withRgb x).sf = s.sf := rfl
@[simp] theorem State.withRgb_lm (x : Fifo3 Color) : (s.withRgb x).lm = s.lm := rfl
@[simp] theorem State.withRgb_mx3Const60 (x : Fifo3 Color) : (s.withRgb x).mx3Const60 = s.mx3Const60 := rfl
@[simp] theorem State.withRgb_pending (x : Fifo3 Color) : (s.withRgb x).pending = s.pending := rfl
@[simp] theorem State.withRgb_replies (x : Fifo3 Color) : (s.withRgb x).replies = s.replies := rfl

@[simp] theorem State.withMac0_v (x : BitVec 32) : (s.withMac0 x).v = s.v := rfl
@[simp] theorem State.withMac0_rgbc (x : BitVec 32) : (s.withMac0 x).rgbc = s.rgbc := rfl
@[simp] theorem State.withMac0_otz (x : BitVec 32) : (s.withMac0 x).otz = s.otz := rfl
@[simp] theorem State.withMac0_ir0 (x : BitVec 32) : (s.withMac0 x).ir0 = s.ir0 := rfl
@[simp] theorem State.withMac0_ir (x : BitVec 32) : (s.withMac0 x).ir = s.ir := rfl
@[simp] theorem State.withMac0_sxy (x : BitVec 32) : (s.withMac0 x).sxy = s.sxy := rfl
@[simp] theorem State.withMac0_sz (x : BitVec 32) : (s.withMac0 x).sz = s.sz := rfl
@[simp] theorem State.withMac0_rgb (x : BitVec 32) : (s.withMac0 x).rgb = s.rgb := rfl
@[simp] theorem State.withMac0_mac0 (x : BitVec 32) : (s.withMac0 x).mac0 = x := rfl
@[simp] theorem State.withMac0_mac (x : BitVec 32) : (s.withMac0 x).mac = s.mac := rfl
@[simp] theorem State.withMac0_ctrl (x : BitVec 32) : (s.withMac0 x).ctrl = s.ctrl := rfl
@[simp] theorem State.withMac0_flag (x : BitVec 32) : (s.withMac0 x).flag = s.flag := rfl
@[simp] theorem State.withMac0_sf (x : BitVec 32) : (s.withMac0 x).sf = s.sf := rfl
@[simp] theorem State.withMac0_lm (x : BitVec 32) : (s.withMac0 x).lm = s.lm := rfl
@[simp] theorem State.withMac0_mx3Const60 (x : BitVec 32) : (s.withMac0 x).mx3Const60 = s.mx3Const60 := rfl
@[simp] theorem State.withMac0_pending (x : BitVec 32) : (s.withMac0 x).pending = s.pending := rfl
@[simp] theorem State.withMac0_replies (x : BitVec 32) : (s.withMac0 x).replies = s.replies := rfl

@[simp] theorem State.withMac_v (x : Vec3 (BitVec 32)) : (s.withMac x).v = s.v := rfl
@[simp] theorem State.withMac_rgbc (x : Vec3 (BitVec 32)) : (s.withMac x).rgbc = s.rgbc := rfl
@[simp] theorem State.withMac_otz (x : Vec3 (BitVec 32)) : (s.withMac x).otz = s.otz := rfl
@[simp] theorem State.withMac_ir0 (x : Vec3 (BitVec 32)) : (s.withMac x).ir0 = s.ir0 := rfl
@[simp] theorem State.withMac_ir (x : Vec3 (BitVec 32)) : (s.withMac x).ir = s.ir := rfl
@[simp] theorem State.withMac_sxy (x : Vec3 (BitVec 32)) : (s.withMac x).sxy = s.sxy := rfl
@[simp] theorem State.withMac_sz (x : Vec3 (BitVec 32)) : (s.withMac x).sz = s.sz := rfl
@[simp] theorem State.withMac_rgb (x : Vec3 (BitVec 32)) : (s.withMac x).rgb = s.rgb := rfl
@[simp] theorem State.withMac_mac0 (x : Vec3 (BitVec 32)) : (s.withMac x).mac0 = s.mac0 := rfl
@[simp] theorem State.withMac_mac (x : Vec3 (BitVec 32)) : (s.withMac x).mac = x := rfl
@[simp] theorem State.withMac_ctrl (x : Vec3 (BitVec 32)) : (s.withMac x).ctrl = s.ctrl := rfl
@[simp] theorem State.withMac_flag (x : Vec3 (BitVec 32)) : (s.withMac x).flag = s.flag := rfl
@[simp] theorem State.withMac_sf (x : Vec3 (BitVec 32)) : (s.withMac x).sf = s.sf := rfl
@[simp] theorem State.withMac_lm (x : Vec3 (BitVec 32)) : (s.withMac x).lm = s.lm := rfl
@[simp] theorem State.withMac_mx3Const60 (x : Vec3 (BitVec 32)) : (s.withMac x).mx3Const60 = s.mx3Const60 := rfl
@[simp] theorem State.withMac_pending (x : Vec3 (BitVec 32)) : (s.withMac x).pending = s.pending := rfl
@[simp] theorem State.withMac_replies (x : Vec3 (BitVec 32)) : (s.withMac x).replies = s.replies := rfl

@[simp] theorem State.withCtrl_v (x : Control) : (s.withCtrl x).v = s.v := rfl
@[simp] theorem State.withCtrl_rgbc (x : Control) : (s.withCtrl x).rgbc = s.rgbc := rfl
@[simp] theorem State.withCtrl_otz (x : Control) : (s.withCtrl x).otz = s.otz := rfl
@[simp] theorem State.withCtrl_ir0 (x : Control) : (s.withCtrl x).ir0 = s.ir0 := rfl
@[simp] theorem State.withCtrl_ir (x : Control) : (s.withCtrl x).ir = s.ir := rfl
@[simp] theorem State.withCtrl_sxy (x : Control) : (s.withCtrl x).sxy = s.sxy := rfl
@[simp] theorem State.withCtrl_sz (x : Control) : (s.withCtrl x).sz = s.sz := rfl
@[simp] theorem State.withCtrl_rgb (x : Control) : (s.withCtrl x).rgb = s.rgb := rfl
@[simp] theorem State.withCtrl_mac0 (x : Control) : (s.withCtrl x).mac0 = s.mac0 := rfl
@[simp] theorem State.withCtrl_mac (x : Control) : (s.withCtrl x).mac = s.mac := rfl
@[simp] theorem State.withCtrl_ctrl (x : Control) : (s.withCtrl x).ctrl = x := rfl
@[simp] theorem State.withCtrl_flag (x : Control) : (s.withCtrl x).flag = s.flag := rfl
@[simp] theorem State.withCtrl_sf (x : Control) : (s.withCtrl x).sf = s.sf := rfl
@[simp] theorem State.withCtrl_lm (x : Control) : (s.withCtrl x).lm = s.lm := rfl
@[simp] theorem State.withCtrl_mx3Const60 (x : Control) : (s.withCtrl x).mx3Const60 = s.mx3Const60 := rfl
@[simp] theorem State.withCtrl_pending (x : Control) : (s.withCtrl x).pending = s.pending := rfl
@[simp] theorem State.withCtrl_replies (x : Control) : (s.withCtrl x).replies = s.replies := rfl

@[simp] theorem State.withFlag_v (x : FlagSet) : (s.withFlag x).v = s.v := rfl
@[simp] theorem State.withFlag_rgbc (x : FlagSet) : (s.withFlag x).rgbc = s.rgbc := rfl
@[simp] theorem State.withFlag_otz (x : FlagSet) : (s.withFlag x).otz = s.otz := rfl
@[simp] theorem State.withFlag_ir0 (x : FlagSet) : (s.withFlag x).ir0 = s.ir0 := rfl
@[simp] theorem State.withFlag_ir (x : FlagSet) : (s.withFlag x).ir = s.ir := rfl
@[simp] theorem State.withFlag_sxy (x : FlagSet) : (s.withFlag x).sxy = s.sxy := rfl
@[simp] theorem State.withFlag_sz (x : FlagSet) : (s.withFlag x).sz = s.sz := rfl
@[simp] theorem State.withFlag_rgb (x : FlagSet) : (s.withFlag x).rgb = s.rgb := rfl
@[simp] theorem State.withFlag_mac0 (x : FlagSet) : (s.withFlag x).mac0 = s.mac0 := rfl
@[simp] theorem State.withFlag_mac (x : FlagSet) : (s.withFlag x).mac = s.mac := rfl
@[simp] theorem State.withFlag_ctrl (x : FlagSet) : (s.withFlag x).ctrl = s.ctrl := rfl
@[simp] theorem State.withFlag_flag (x : FlagSet) : (s.withFlag x).flag = x := rfl
@[simp] theorem State.withFlag_sf (x : FlagSet) : (s.withFlag x).sf = s.sf := rfl
@[simp] theorem State.withFlag_lm (x : FlagSet) : (s.withFlag x).lm = s.lm := rfl
@[simp] theorem State.withFlag_mx3Const60 (x : FlagSet) : (s.withFlag x).mx3Const60 = s.mx3Const60 := rfl
@[simp] theorem State.withFlag_pending (x : FlagSet) : (s.withFlag x).pending = s.pending := rfl
@[simp] theorem State.withFlag_replies (x : FlagSet) : (s.withFlag x).replies = s.replies := rfl

@[simp] theorem State.withLatches_v (a b : Bool) : (s.withLatches a b).v = s.v := rfl
@[simp] theorem State.withLatches_rgbc (a b : Bool) : (s.withLatches a b).rgbc = s.rgbc := rfl
@[simp] theorem State.withLatches_otz (a b : Bool) : (s.withLatches a b).otz = s.otz := rfl
@[simp] theorem State.withLatches_ir0 (a b : Bool) : (s.withLatches a b).ir0 = s.ir0 := rfl
@[simp] theorem State.withLatches_ir (a b : Bool) : (s.withLatches a b).ir = s.ir := rfl
@[simp] theorem State.withLatches_sxy (a b : Bool) : (s.withLatches a b).sxy = s.sxy := rfl
@[simp] theorem State.withLatches_sz (a b : Bool) : (s.withLatches a b).sz = s.sz := rfl
@[simp] theorem State.withLatches_rgb (a b : Bool) : (s.withLatches a b).rgb = s.rgb := rfl
@[simp] theorem State.withLatches_mac0 (a b : Bool) : (s.withLatches a b).mac0 = s.mac0 := rfl
@[simp] theorem State.withLatches_mac (a b : Bool) : (s.withLatches a b).mac = s.mac := rfl
@[simp] theorem State.withLatches_ctrl (a b : Bool) : (s.withLatches a b).ctrl = s.ctrl := rfl
@[simp] theorem State.withLatches_flag (a b : Bool) : (s.withLatches a b).flag = s.flag := rfl
@[simp] theorem State.withLatches_sf (a b : Bool) : (s.withLatches a b).sf = a := rfl
@[simp] theorem State.withLatches_lm (a b : Bool) : (s.withLatches a b).lm = b := rfl
@[simp] theorem State.withLatches_mx3Const60 (a b : Bool) : (s.withLatches a b).mx3Const60 = s.mx3Const60 := rfl
@[simp] theorem State.withLatches_pending (a b : Bool) : (s.withLatches a b).pending = s.pending := rfl
@[simp] theorem State.withLatches_replies (a b : Bool) : (s.withLatches a b).replies = s.replies := rfl

@[simp] theorem State.withPending_v (x : List Transaction) : (s.withPending x).v = s.v := rfl
@[simp] theorem State.withPending_rgbc (x : List Transaction) : (s.withPending x).rgbc = s.rgbc := rfl
@[simp] theorem State.withPending_otz (x : List Transaction) : (s.withPending x).otz = s.otz := rfl
@[simp] theorem State.withPending_ir0 (x : List Transaction) : (s.withPending x).ir0 = s.ir0 := rfl
@[simp] theorem State.withPending_ir (x : List Transaction) : (s.withPending x).ir = s.ir := rfl
@[simp] theorem State.withPending_sxy (x : List Transaction) : (s.withPending x).sxy = s.sxy := rfl
@[simp] theorem State.withPending_sz (x : List Transaction) : (s.withPending x).sz = s.sz := rfl
@[simp] theorem State.withPending_rgb (x : List Transaction) : (s.withPending x).rgb = s.rgb := rfl
@[simp] theorem State.withPending_mac0 (x : List Transaction) : (s.withPending x).mac0 = s.mac0 := rfl
@[simp] theorem State.withPending_mac (x : List Transaction) : (s.withPending x).mac = s.mac := rfl
@[simp] theorem State.withPending_ctrl (x : List Transaction) : (s.withPending x).ctrl = s.ctrl := rfl
@[simp] theorem State.withPending_flag (x : List Transaction) : (s.withPending x).flag = s.flag := rfl
@[simp] theorem State.withPending_sf (x : List Transaction) : (s.withPending x).sf = s.sf := rfl
@[simp] theorem State.withPending_lm (x : List Transaction) : (s.withPending x).lm = s.lm := rfl
@[simp] theorem State.withPending_mx3Const60 (x : List Transaction) : (s.withPending x).mx3Const60 = s.mx3Const60 := rfl
@[simp] theorem State.withPending_pending (x : List Transaction) : (s.withPending x).pending = x := rfl
@[simp] theorem State.withPending_replies (x : List Transaction) : (s.withPending x).replies = s.replies := rfl

@[simp] theorem State.withReplies_v (x : List Reply) : (s.withReplies x).v = s.v := rfl
@[simp] theorem State.withReplies_rgbc (x : List Reply) : (s.withReplies x).rgbc = s.rgbc := rfl
@[simp] theorem State.withReplies_otz (x : List Reply) : (s.withReplies x).otz = s.otz := rfl
@[simp] theorem State.withReplies_ir0 (x : List Reply) : (s.withReplies x).ir0 = s.ir0 := rfl
@[simp] theorem State.withReplies_ir (x : List Reply) : (s.withReplies x).ir = s.ir := rfl
@[simp] theorem State.withReplies_sxy (x : List Reply) : (s.withReplies x).sxy = s.sxy := rfl
@[simp] theorem State.withReplies_sz (x : List Reply) : (s.withReplies x).sz = s.sz := rfl
@[simp] theorem State.withReplies_rgb (x : List Reply) : (s.withReplies x).rgb = s.rgb := rfl
@[simp] theorem State.withReplies_mac0 (x : List Reply) : (s.withReplies x).mac0 = s.mac0 := rfl
@[simp] theorem State.withReplies_mac (x : List Reply) : (s.withReplies x).mac = s.mac := rfl
@[simp] theorem State.withReplies_ctrl (x : List Reply) : (s.withReplies x).ctrl = s.ctrl := rfl
@[simp] theorem State.withReplies_flag (x : List Reply) : (s.withReplies x).flag = s.flag := rfl
@[simp] theorem State.withReplies_sf (x : List Reply) : (s.withReplies x).sf = s.sf := rfl
@[simp] theorem State.withReplies_lm (x : List Reply) : (s.withReplies x).lm = s.lm := rfl
@[simp] theorem State.withReplies_mx3Const60 (x : List Reply) : (s.withReplies x).mx3Const60 = s.mx3Const60 := rfl
@[simp] theorem State.withReplies_pending (x : List Reply) : (s.withReplies x).pending = s.pending := rfl
@[simp] theorem State.withReplies_replies (x : List Reply) : (s.withReplies x).replies = x := rfl

/-! Two updates of one field: the later one stands. Two updates of different fields: put in one order, latches
first, then FLAG, so that equal states get equal terms. -/

@[simp] theorem State.withLatches_withLatches (a b a' b' : Bool) : (s.withLatches a b).withLatches a' b' = s.withLatches a' b' := rfl
@[simp] theorem State.withFlag_withFlag (f f' : FlagSet) : (s.withFlag f).withFlag f' = s.withFlag f' := rfl
@[simp] theorem State.withMac0_withMac0 (m m' : BitVec 32) : (s.withMac0 m).withMac0 m' = s.withMac0 m' := rfl
@[simp] theorem State.withMac_withMac (m m' : Vec3 (BitVec 32)) : (s.withMac m).withMac m' = s.withMac m' := rfl
@[simp] theorem State.withIr0_withIr0 (r r' : BitVec 16) : (s.withIr0 r).withIr0 r' = s.withIr0 r' := rfl
@[simp] theorem State.withIr_withIr (r r' : Vec3 (BitVec 16)) : (s.withIr r).withIr r' = s.withIr r' := rfl
@[simp] theorem State.withOtz_withOtz (o o' : BitVec 16) : (s.withOtz o).withOtz o' = s.withOtz o' := rfl
@[simp] theorem State.withSxy_withSxy (q q' : Fifo3 ScreenXY) : (s.withSxy q).withSxy q' = s.withSxy q' := rfl
@[simp] theorem State.withSz_withSz (z z' : Fifo4 (BitVec 16)) : (s.withSz z).withSz z' = s.withSz z' := rfl
@[simp] theorem State.withRgb_withRgb (c c' : Fifo3 Color) : (s.withRgb c).withRgb c' = s.withRgb c' := rfl
@[simp] theorem State.withPending_withPending (l l' : List Transaction) : (s.withPending l).withPending l' = s.withPending l' := rfl
@[simp] theorem State.withReplies_withReplies (l l' : List Reply) : (s.withReplies l).withReplies l' = s.withReplies l' := rfl
@[simp] theorem State.withFlag_withLatches (f2 : FlagSet) (a1 b1 : Bool) :
    (s.withFlag f2).withLatches a1 b1 = (s.withLatches a1 b1).withFlag f2 := rfl
@[simp] theorem State.withMac0_withLatches (m2 : BitVec 32) (a1 b1 : Bool) :
    (s.withMac0 m2).withLatches a1 b1 = (s.withLatches a1 b1).withMac0 m2 := rfl
@[simp] theorem State.withMac0_withFlag (m2 : BitVec 32) (f1 : FlagSet) :
    (s.withMac0 m2).withFlag f1 = (s.withFlag f1).withMac0 m2 := rfl
@[simp] theorem State.withMac_withLatches (m2 : Vec3 (BitVec 32)) (a1 b1 : Bool) :
    (s.withMac m2).withLatches a1 b1 = (s.withLatches a1 b1).withMac m2 := rfl
@[simp] theorem State.withMac_withFlag (m2 : Vec3 (BitVec 32)) (f1 : FlagSet) :
    (s.withMac m2).withFlag f1 = (s.withFlag f1).withMac m2 := rfl
@[simp] theorem State.withMac_withMac0 (m2 : Vec3 (BitVec 32)) (m1 : BitVec 32) :
    (s.withMac m2).withMac0 m1 = (s.withMac0 m1).withMac m2 := rfl
@[simp] theorem State.withIr0_withLatches (r2 : BitVec 16) (a1 b1 : Bool) :
    (s.withIr0 r2).withLatches a1 b1 = (s.withLatches a1 b1).withIr0 r2 := rfl
@[simp] theorem State.withIr0_withFlag (r2 : BitVec 16) (f1 : FlagSet) :
    (s.withIr0 r2).withFlag f1 = (s.withFlag f1).withIr0 r2 := rfl
@[simp] theorem State.withIr0_withMac0 (r2 : BitVec 16) (m1 : BitVec 32) :
    (s.withIr0 r2).withMac0 m1 = (s.withMac0 m1).withIr0 r2 := rfl
@[simp] theorem State.withIr0_withMac (r2 : BitVec 16) (m1 : Vec3 (BitVec 32)) :
    (s.withIr0 r2).withMac m1 = (s.withMac m1).withIr0 r2 := rfl
@[simp] theorem State.withIr_withLatches (r2 : Vec3 (BitVec 16)) (a1 b1 : Bool) :
    (s.withIr r2).withLatches a1 b1 = (s.withLatches a1 b1).withIr r2 := rfl
@[simp] theorem State.withIr_withFlag (r2 : Vec3 (BitVec 16)) (f1 : FlagSet) :
    (s.withIr r2).withFlag f1 = (s.withFlag f1).withIr r2 := rfl
@[simp] theorem State.withIr_withMac0 (r2 : Vec3 (BitVec 16)) (m1 : BitVec 32) :
    (s.withIr r2).withMac0 m1 = (s.withMac0 m1).withIr r2 := rfl
@[simp] theorem State.withIr_withMac (r2 : Vec3 (BitVec 16)) (m1 : Vec3 (BitVec 32)) :
    (s.withIr r2).withMac m1 = (s.withMac m1).withIr r2 := rfl
@[simp] theorem State.withIr_withIr0 (r2 : Vec3 (BitVec 16)) (r1 : BitVec 16) :
    (s.withIr r2).withIr0 r1 = (s.withIr0 r1).withIr r2 := rfl
@[simp] theorem State.withOtz_withLatches (o2 : BitVec 16) (a1 b1 : Bool) :
    (s.withOtz o2).withLatches a1 b1 = (s.withLatches a1 b1).withOtz o2 := rfl
@[simp] theorem State.withOtz_withFlag (o2 : BitVec 16) (f1 : FlagSet) :
    (s.withOtz o2).withFlag f1 = (s.withFlag f1).withOtz o2 := rfl
@[simp] theorem State.withOtz_withMac0 (o2 : BitVec 16) (m1 : BitVec 32) :
    (s.withOtz o2).withMac0 m1 = (s.withMac0 m1).withOtz o2 := rfl
@[simp] theorem State.withOtz_withMac (o2 : BitVec 16) (m1 : Vec3 (BitVec 32)) :
    (s.withOtz o2).withMac m1 = (s.withMac m1).withOtz o2 := rfl
@[simp] theorem State.withOtz_withIr0 (o2 : BitVec 16) (r1 : BitVec 16) :
    (s.withOtz o2).withIr0 r1 = (s.withIr0 r1).withOtz o2 := rfl
@[simp] theorem State.withOtz_withIr (o2 : BitVec 16) (r1 : Vec3 (BitVec 16)) :
    (s.withOtz o2).withIr r1 = (s.withIr r1).withOtz o2 := rfl
@[simp] theorem State.withSxy_withLatches (q2 : Fifo3 ScreenXY) (a1 b1 : Bool) :
    (s.withSxy q2).withLatches a1 b1 = (s.withLatches a1 b1).withSxy q2 := rfl
@[simp] theorem State.withSxy_withFlag (q2 : Fifo3 ScreenXY) (f1 : FlagSet) :
    (s.withSxy q2).withFlag f1 = (s.withFlag f1).withSxy q2 := rfl
@[simp] theorem State.withSxy_withMac0 (q2 : Fifo3 ScreenXY) (m1 : BitVec 32) :
    (s.withSxy q2).withMac0 m1 = (s.withMac0 m1).withSxy q2 := rfl
@[simp] theorem State.withSxy_withMac (q2 : Fifo3 ScreenXY) (m1 : Vec3 (BitVec 32)) :
    (s.withSxy q2).withMac m1 = (s.withMac m1).withSxy q2 := rfl
@[simp] theorem State.withSxy_withIr0 (q2 : Fifo3 ScreenXY) (r1 : BitVec 16) :
    (s.withSxy q2).withIr0 r1 = (s.withIr0 r1).withSxy q2 := rfl
@[simp] theorem State.withSxy_withIr (q2 : Fifo3 ScreenXY) (r1 : Vec3 (BitVec 16)) :
    (s.withSxy q2).withIr r1 = (s.withIr r1).withSxy q2 := rfl
@[simp] theorem State.withSxy_withOtz (q2 : Fifo3 ScreenXY) (o1 : BitVec 16) :
    (s.withSxy q2).withOtz o1 = (s.withOtz o1).withSxy q2 := rfl
@[simp] theorem State.withSz_withLatches (z2 : Fifo4 (BitVec 16)) (a1 b1 : Bool) :
    (s.withSz z2).withLatches a1 b1 = (s.withLatches a1 b1).withSz z2 := rfl
@[simp] theorem State.withSz_withFlag (z2 : Fifo4 (BitVec 16)) (f1 : FlagSet) :
    (s.withSz z2).withFlag f1 = (s.withFlag f1).withSz z2 := rfl
@[simp] theorem State.withSz_withMac0 (z2 : Fifo4 (BitVec 16)) (m1 : BitVec 32) :
    (s.withSz z2).withMac0 m1 = (s.withMac0 m1).withSz z2 := rfl
@[simp] theorem State.withSz_withMac (z2 : Fifo4 (BitVec 16)) (m1 : Vec3 (BitVec 32)) :
    (s.withSz z2).withMac m1 = (s.withMac m1).withSz z2 := rfl
@[simp] theorem State.withSz_withIr0 (z2 : Fifo4 (BitVec 16)) (r1 : BitVec 16) :
    (s.withSz z2).withIr0 r1 = (s.withIr0 r1).withSz z2 := rfl
@[simp] theorem State.withSz_withIr (z2 : Fifo4 (BitVec 16)) (r1 : Vec3 (BitVec 16)) :
    (s.withSz z2).withIr r1 = (s.withIr r1).withSz z2 := rfl
@[simp] theorem State.withSz_withOtz (z2 : Fifo4 (BitVec 16)) (o1 : BitVec 16) :
    (s.withSz z2).withOtz o1 = (s.withOtz o1).withSz z2 := rfl
@[simp] theorem State.withSz_withSxy (z2 : Fifo4 (BitVec 16)) (q1 : Fifo3 ScreenXY) :
    (s.withSz z2).withSxy q1 = (s.withSxy q1).withSz z2 := rfl
@[simp] theorem State.withRgb_withLatches (c2 : Fifo3 Color) (a1 b1 : Bool) :
    (s.withRgb c2).withLatches a1 b1 = (s.withLatches a1 b1).withRgb c2 := rfl
@[simp] theorem State.withRgb_withFlag (c2 : Fifo3 Color) (f1 : FlagSet) :
    (s.withRgb c2).withFlag f1 = (s.withFlag f1).withRgb c2 := rfl
@[simp] theorem State.withRgb_withMac0 (c2 : Fifo3 Color) (m1 : BitVec 32) :
    (s.withRgb c2).withMac0 m1 = (s.withMac0 m1).withRgb c2 := rfl
@[simp] theorem State.withRgb_withMac (c2 : Fifo3 Color) (m1 : Vec3 (BitVec 32)) :
    (s.withRgb c2).withMac m1 = (s.withMac m1).withRgb c2 := rfl
@[simp] theorem State.withRgb_withIr0 (c2 : Fifo3 Color) (r1 : BitVec 16) :
    (s.withRgb c2).withIr0 r1 = (s.withIr0 r1).withRgb c2 := rfl
@[simp] theorem State.withRgb_withIr (c2 : Fifo3 Color) (r1 : Vec3 (BitVec 16)) :
    (s.withRgb c2).withIr r1 = (s.withIr r1).withRgb c2 := rfl
@[simp] theorem State.withRgb_withOtz (c2 : Fifo3 Color) (o1 : BitVec 16) :
    (s.withRgb c2).withOtz o1 = (s.withOtz o1).withRgb c2 := rfl
@[simp] theorem State.withRgb_withSxy (c2 : Fifo3 Color) (q1 : Fifo3 ScreenXY) :
    (s.withRgb c2).withSxy q1 = (s.withSxy q1).withRgb c2 := rfl
@[simp] theorem State.withRgb_withSz (c2 : Fifo3 Color) (z1 : Fifo4 (BitVec 16)) :
    (s.withRgb c2).withSz z1 = (s.withSz z1).withRgb c2 := rfl
@[simp] theorem State.withPending_withLatches (l2 : List Transaction) (a1 b1 : Bool) :
    (s.withPending l2).withLatches a1 b1 = (s.withLatches a1 b1).withPending l2 := rfl
@[simp] theorem State.withPending_withFlag (l2 : List Transaction) (f1 : FlagSet) :
    (s.withPending l2).withFlag f1 = (s.withFlag f1).withPending l2 := rfl
@[simp] theorem State.withPending_withMac0 (l2 : List Transaction) (m1 : BitVec 32) :
    (s.withPending l2).withMac0 m1 = (s.withMac0 m1).withPending l2 := rfl
@[simp] theorem State.withPending_withMac (l2 : List Transaction) (m1 : Vec3 (BitVec 32)) :
    (s.withPending l2).withMac m1 = (s.withMac m1).withPending l2 := rfl
@[simp] theorem State.withPending_withIr0 (l2 : List Transaction) (r1 : BitVec 16) :
    (s.withPending l2).withIr0 r1 = (s.withIr0 r1).withPending l2 := rfl
@[simp] theorem State.withPending_withIr (l2 : List Transaction) (r1 : Vec3 (BitVec 16)) :
    (s.withPending l2).withIr r1 = (s.withIr r1).withPending l2 := rfl
@[simp] theorem State.withPending_withOtz (l2 : List Transaction) (o1 : BitVec 16) :
    (s.withPending l2).withOtz o1 = (s.withOtz o1).withPending l2 := rfl
@[simp] theorem State.withPending_withSxy (l2 : List Transaction) (q1 : Fifo3 ScreenXY) :
    (s.withPending l2).withSxy q1 = (s.withSxy q1).withPending l2 := rfl
@[simp] theorem State.withPending_withSz (l2 : List Transaction) (z1 : Fifo4 (BitVec 16)) :
    (s.withPending l2).withSz z1 = (s.withSz z1).withPending l2 := rfl
@[simp] theorem State.withPending_withRgb (l2 : List Transaction) (c1 : Fifo3 Color) :
    (s.withPending l2).withRgb c1 = (s.withRgb c1).withPending l2 := rfl
@[simp] theorem State.withReplies_withLatches (l2 : List Reply) (a1 b1 : Bool) :
    (s.withReplies l2).withLatches a1 b1 = (s.withLatches a1 b1).withReplies l2 := rfl
@[simp] theorem State.withReplies_withFlag (l2 : List Reply) (f1 : FlagSet) :
    (s.withReplies l2).withFlag f1 = (s.withFlag f1).withReplies l2 := rfl
@[simp] theorem State.withReplies_withMac0 (l2 : List Reply) (m1 : BitVec 32) :
    (s.withReplies l2).withMac0 m1 = (s.withMac0 m1).withReplies l2 := rfl
@[simp] theorem State.withReplies_withMac (l2 : List Reply) (m1 : Vec3 (BitVec 32)) :
    (s.withReplies l2).withMac m1 = (s.withMac m1).withReplies l2 := rfl
@[simp] theorem State.withReplies_withIr0 (l2 : List Reply) (r1 : BitVec 16) :
    (s.withReplies l2).withIr0 r1 = (s.withIr0 r1).withReplies l2 := rfl
@[simp] theorem State.withReplies_withIr (l2 : List Reply) (r1 : Vec3 (BitVec 16)) :
    (s.withReplies l2).withIr r1 = (s.withIr r1).withReplies l2 := rfl
@[simp] theorem State.withReplies_withOtz (l2 : List Reply) (o1 : BitVec 16) :
    (s.withReplies l2).withOtz o1 = (s.withOtz o1).withReplies l2 := rfl
@[simp] theorem State.withReplies_withSxy (l2 : List Reply) (q1 : Fifo3 ScreenXY) :
    (s.withReplies l2).withSxy q1 = (s.withSxy q1).withReplies l2 := rfl
@[simp] theorem State.withReplies_withSz (l2 : List Reply) (z1 : Fifo4 (BitVec 16)) :
    (s.withReplies l2).withSz z1 = (s.withSz z1).withReplies l2 := rfl
@[simp] theorem State.withReplies_withRgb (l2 : List Reply) (c1 : Fifo3 Color) :
    (s.withReplies l2).withRgb c1 = (s.withRgb c1).withReplies l2 := rfl
@[simp] theorem State.withReplies_withPending (l2 : List Reply) (l1 : List Transaction) :
    (s.withReplies l2).withPending l1 = (s.withPending l1).withReplies l2 := rfl

/-- Two states with equal fields are equal. -/
theorem State.ext_fields {s t : State} (hv : s.v = t.v) (hrgbc : s.rgbc = t.rgbc) (hotz : s.otz = t.otz) (hir0 : s.ir0 = t.ir0)
    (hir : s.ir = t.ir) (hsxy : s.sxy = t.sxy) (hsz : s.sz = t.sz) (hrgb : s.rgb = t.rgb)
    (hmac0 : s.mac0 = t.mac0) (hmac : s.mac = t.mac) (hctrl : s.ctrl = t.ctrl) (hflag : s.flag = t.flag)
    (hsf : s.sf = t.sf) (hlm : s.lm = t.lm) (hmx3Const60 : s.mx3Const60 = t.mx3Const60) (hpending : s.pending = t.pending)
    (hreplies : s.replies = t.replies) : s = t := by
  cases s; cases t; simp_all

end Sys2Proof.Machine
end

