-- ==== Sys2Proof/Laws/Flags.lean ====
section
/-! SUPPORT. Laws of the FLAG register and of the detectors: membership of flag sets, raising, `clip`, `check44`,
`check32`, and the FLAG word. -/

namespace Sys2Proof.Machine

theorem FlagBit.pos_sub_lt (b : FlagBit) : b.pos - 12 < 19 := by cases b <;> decide

@[simp] theorem hasBit_or (f g : FlagSet) (b : FlagBit) : hasBit (f ||| g) b = (hasBit f b || hasBit g b) := by
  simp [hasBit]

@[simp] theorem hasBit_and (f g : FlagSet) (b : FlagBit) : hasBit (f &&& g) b = (hasBit f b && hasBit g b) := by
  simp [hasBit]

@[simp] theorem hasBit_noFlags (b : FlagBit) : hasBit noFlags b = false := by simp [hasBit, noFlags]

@[simp] theorem hasBit_zero (b : FlagBit) : hasBit 0#19 b = false := by simp [hasBit]

theorem hasBit_mask (a b : FlagBit) : hasBit a.mask b = decide (a = b) := by
  cases a <;> cases b <;> decide

theorem hasBit_flagWhen (c : Bool) (a b : FlagBit) : hasBit (flagWhen c a) b = (c && decide (a = b)) := by
  cases c <;> simp [flagWhen, hasBit_mask]

/-- Two flag sets that hold the same bits are equal. -/
theorem FlagSet.ext_bits {f g : FlagSet} (h : ∀ b, hasBit f b = hasBit g b) : f = g := by
  apply BitVec.eq_of_getLsbD_eq
  intro k hk
  have hb : ∃ b : FlagBit, b.pos - 12 = k := by
    have hlt : k < 19 := hk
    interval_cases k
    exacts [⟨.ir0Sat, rfl⟩, ⟨.sy2Sat, rfl⟩, ⟨.sx2Sat, rfl⟩, ⟨.mac0Neg, rfl⟩, ⟨.mac0Pos, rfl⟩, ⟨.divOvf, rfl⟩,
      ⟨.sz3OtzSat, rfl⟩, ⟨.colorBSat, rfl⟩, ⟨.colorGSat, rfl⟩, ⟨.colorRSat, rfl⟩, ⟨.ir3Sat, rfl⟩, ⟨.ir2Sat, rfl⟩,
      ⟨.ir1Sat, rfl⟩, ⟨.mac3Neg, rfl⟩, ⟨.mac2Neg, rfl⟩, ⟨.mac1Neg, rfl⟩, ⟨.mac3Pos, rfl⟩, ⟨.mac2Pos, rfl⟩,
      ⟨.mac1Pos, rfl⟩]
  obtain ⟨b, rfl⟩ := hb
  exact h b

/-- `raise` is a change of FLAG alone. -/
theorem raise_eq (bits : FlagSet) (s : State) : raise bits s = s.withFlag (s.flag ||| bits) := rfl

theorem flagged_raise (bits : FlagSet) (s : State) (b : FlagBit) :
    (raise bits s).flagged b = (s.flagged b || hasBit bits b) := by
  simp [State.flagged, raise_eq]

/-- What `clip` returns: the nearest value of the range. -/
theorem clip_fst {v hi lo : Int} (h : lo ≤ hi) (bits : FlagSet) : (clip v hi lo bits).1 = max lo (min hi v) := by
  unfold clip
  split
  · simp only; omega
  · split <;> simp only <;> omega

/-- What `clip` raises: exactly its flag bits, and only outside the range. -/
theorem clip_snd (v hi lo : Int) (bits : FlagSet) :
    (clip v hi lo bits).2 = if v > hi ∨ v < lo then bits else noFlags := by
  unfold clip
  by_cases h1 : v > hi
  · simp [h1]
  · by_cases h2 : v < lo <;> simp [h1, h2]

/-- The value `clip` returns lies in the range. -/
theorem clip_mem {v hi lo : Int} (h : lo ≤ hi) (bits : FlagSet) :
    lo ≤ (clip v hi lo bits).1 ∧ (clip v hi lo bits).1 ≤ hi := by
  rw [clip_fst h]; omega

theorem hasBit_clip_mask (v hi lo : Int) (a b : FlagBit) :
    hasBit (clip v hi lo a.mask).2 b = (decide (v > hi ∨ v < lo) && decide (a = b)) := by
  rw [clip_snd]; split <;> simp_all [hasBit_mask]

theorem hasBit_clip_noFlags (v hi lo : Int) (b : FlagBit) : hasBit (clip v hi lo noFlags).2 b = false := by
  rw [clip_snd]; split <;> simp

/-- The bits `check44` raises: the positive bit from 2^43 on, the negative bit below -2^43. -/
theorem hasBit_check44 (v : Int) (p n b : FlagBit) :
    hasBit (check44 v p n) b =
      ((decide (v ≥ 8796093022208) && decide (p = b)) || (decide (v < -8796093022208) && decide (n = b))) := by
  simp [check44, hasBit_flagWhen]

/-- The bits `check32` raises. -/
theorem hasBit_check32 (v : Int) (b : FlagBit) :
    hasBit (check32 v) b =
      ((decide (v > 2147483647) && decide (FlagBit.mac0Pos = b)) ||
        (decide (v < -2147483648) && decide (FlagBit.mac0Neg = b))) := by
  simp [check32, hasBit_flagWhen]

/-- A value inside the 44-bit range raises nothing. -/
theorem check44_inRange {v : Int} (h1 : -8796093022208 ≤ v) (h2 : v < 8796093022208) (p n : FlagBit) :
    check44 v p n = noFlags := by
  have a : ¬ v ≥ 0x80000000000 := by omega
  have b : ¬ v < -0x80000000000 := by omega
  simp only [check44, flagWhen, a, b, decide_false, Bool.false_eq_true, if_false]
  decide

end Sys2Proof.Machine
end

