-- ==== Sys2Proof/Laws/Ops.lean ====
section
/-! SUPPORT. One lemma for each shared operation that says everything it does, as a chain of named updates of the
state (then the simp lemmas of Laws/State.lean give any field), in the reference arithmetic of Safety.lean. -/

namespace Sys2Proof.Machine

open Sys2Proof.Safety

theorem sfShift_eq_scaled (sf : Bool) (v : Int) : sfShift sf v = scaled sf v := rfl

theorem irMin_eq_irLow (lm : Bool) : irMin lm = irLow lm := by cases lm <;> rfl

theorem irLow_le (lm : Bool) : irLow lm ≤ 32767 := by cases lm <;> decide

/-- `IR[i]` stays inside the 16-bit range, so nothing is lost when it is stored. -/
theorem irInt_bounds (sf lm : Bool) (v : Int) : -32768 ≤ irInt sf lm v ∧ irInt sf lm v ≤ 32767 := by
  unfold irInt sat irLow; split <;> omega

/-- A value of the 16-bit signed range survives being stored and read. -/
theorem toInt_ofInt16 {v : Int} (h1 : -32768 ≤ v) (h2 : v ≤ 32767) : (BitVec.ofInt 16 v).toInt = v := by
  rw [BitVec.toInt_ofInt]; exact Int.bmod_eq_of_le (by norm_num; omega) (by norm_num; omega)

@[simp] theorem ints_regs16_irInts (sf lm : Bool) (c : Vec3 Int) :
    ints (regs16 (irInts sf lm c)) = irInts sf lm c := by
  simp only [ints, regs16, irInts]
  rw [toInt_ofInt16 (irInt_bounds ..).1 (irInt_bounds ..).2, toInt_ofInt16 (irInt_bounds ..).1 (irInt_bounds ..).2,
    toInt_ofInt16 (irInt_bounds ..).1 (irInt_bounds ..).2]

/-- The flag set of a predicate on flag bits that one lane's write raises. -/
def laneFlags (i : Lane) (sf lm : Bool) (v : Int) : FlagSet :=
  check44 v (macPosBit i) (macNegBit i) ||| (clip (sfShift sf v) 0x7fff (irMin lm) (irSatBit i).mask).2

theorem hasBit_laneFlags (i : Lane) (sf lm : Bool) (v : Int) (b : FlagBit) :
    hasBit (laneFlags i sf lm v) b = laneRaises i sf lm v b := by
  simp only [laneFlags, hasBit_or, hasBit_check44, hasBit_clip_mask, laneRaises, over44, under44, irClamped,
    sfShift_eq_scaled, irMin_eq_irLow]

/-- `setMac(0, v)`: `MAC[0]` and FLAG change, nothing else. -/
theorem setMac0_eq (v : Int) (s : State) :
    setMac0 v s = (s.withFlag (s.flag ||| check32 v)).withMac0 (BitVec.ofInt 32 v) := rfl

/-- `setMac(i, v)`: `MAC[i]` and FLAG change, nothing else. -/
theorem setMac_eq (i : Lane) (v : Int) (s : State) :
    setMac i v s = (s.withFlag (s.flag ||| check44 v (macPosBit i) (macNegBit i))).withMac
      (s.mac.set i (macOf s.sf v)) := rfl

/-- `setIr(0, v)`: `IR[0]` and FLAG change, nothing else. -/
theorem setIr0_eq (v : Int) (s : State) :
    setIr0 v s = (s.withFlag (s.flag ||| (clip (v / 4096) 4096 0 FlagBit.ir0Sat.mask).2)).withIr0
      (BitVec.ofInt 16 (sat 0 4096 (v / 4096))) := by
  simp only [setIr0, shr12, raise_eq, sat, clip_fst (show (0 : Int) ≤ 0x1000 by decide)]

/-- `setIr(i, v, lm)`: `IR[i]` and FLAG change, nothing else. -/
theorem setIr_eq (i : Lane) (v : Int) (lm : Bool) (s : State) :
    setIr i v lm s = (s.withFlag (s.flag ||| (clip v 0x7fff (irMin lm) (irSatBit i).mask).2)).withIr
      (s.ir.set i (BitVec.ofInt 16 (sat (irLow lm) 32767 v))) := by
  simp only [setIr, raise_eq, sat, irMin_eq_irLow, clip_fst (irLow_le lm)]

/-- `setMacAndIr(0, v)`: `MAC[0]`, `IR[0]` and FLAG change, nothing else. -/
theorem setMacAndIr0_eq (v : Int) (s : State) :
    setMacAndIr0 v s =
      ((s.withFlag (s.flag ||| check32 v ||| (clip (v / 4096) 4096 0 FlagBit.ir0Sat.mask).2)).withMac0
        (BitVec.ofInt 32 v)).withIr0 (BitVec.ofInt 16 (sat 0 4096 (v / 4096))) := by
  simp [setMacAndIr0, setIr0_eq, setMac0_eq]

/-- `setMacAndIr(i, v, lm)`: `MAC[i]`, `IR[i]` and FLAG change, nothing else. -/
theorem setMacAndIr_eq (i : Lane) (v : Int) (lm : Bool) (s : State) :
    setMacAndIr i v lm s =
      ((s.withFlag (s.flag ||| laneFlags i s.sf lm v)).withMac (s.mac.set i (macOf s.sf v))).withIr
        (s.ir.set i (BitVec.ofInt 16 (irInt s.sf lm v))) := by
  simp [setMacAndIr, setIr_eq, setMac_eq, laneFlags, BitVec.or_assoc, irInt, sfShift_eq_scaled]

/-- The flag set a three-lane step raises. -/
def tripleFlags (sf lm : Bool) (c : Vec3 Int) : FlagSet :=
  laneFlags .one sf lm c.x ||| laneFlags .two sf lm c.y ||| laneFlags .three sf lm c.z

@[simp] theorem hasBit_tripleFlags (sf lm : Bool) (c : Vec3 Int) (b : FlagBit) :
    hasBit (tripleFlags sf lm c) b = tripleRaises sf lm c b := by
  simp only [tripleFlags, tripleRaises, hasBit_or, hasBit_laneFlags]

/-- A three-lane step: `MAC[1..3]`, `IR[1..3]` and FLAG change, nothing else. -/
theorem setTriple_eq (c : Vec3 Int) (lm : Bool) (s : State) :
    setTriple c lm s =
      ((s.withFlag (s.flag ||| tripleFlags s.sf lm c)).withMac (macTriple s.sf c)).withIr
        (regs16 (irInts s.sf lm c)) := by
  simp [setTriple, setMacAndIr_eq, tripleFlags, BitVec.or_assoc, Vec3.set, macTriple, regs16, irInts]

/-- The matrix product is the three-lane step on its three sums. -/
theorem mulMatVec_eq (m : Mat3 Int) (v t : Vec3 Int) (lm : Bool) (s : State) :
    mulMatVec m v t lm s = setTriple ⟨laneSum m v t .one, laneSum m v t .two, laneSum m v t .three⟩ lm s := rfl

theorem differenceSums_eq (c : Vec3 Int) (s : State) :
    interpolateDifference c s = setTriple (differenceSums s c) false s := rfl

/-- `interpolate(c, lm)`: `MAC[1..3]` and `IR[1..3]` take the blend, FLAG takes the bits of both halves, nothing else
changes. -/
theorem interpolate_eq (c : Vec3 Int) (lm : Bool) (s : State) :
    interpolate c lm s =
      ((s.withFlag (s.flag ||| (tripleFlags s.sf false (differenceSums s c) |||
          tripleFlags s.sf lm (interpolated s s.sf c)))).withMac (macTriple s.sf (interpolated s s.sf c))).withIr
        (regs16 (irInts s.sf lm (interpolated s s.sf c))) := by
  have hb : ∀ t : State, interpolateBlend c lm t = setTriple (blendSums t c (ints t.ir)) lm t := fun _ => rfl
  have hd : blendSums (setTriple (differenceSums s c) false s) c
      (ints (setTriple (differenceSums s c) false s).ir) = interpolated s s.sf c := by
    simp only [setTriple_eq, State.withIr_ir, ints_regs16_irInts]; rfl
  rw [interpolate, hb, differenceSums_eq, hd]
  simp [setTriple_eq, BitVec.or_assoc]

/-- `setOtz(v)`: `OTZ` and FLAG change, nothing else. -/
theorem setOtz_eq (v : Int) (s : State) :
    setOtz v s = (s.withFlag (s.flag ||| (clip (v / 4096) 65535 0 FlagBit.sz3OtzSat.mask).2)).withOtz
      (BitVec.ofInt 16 (sat 0 65535 (v / 4096))) := by
  simp only [setOtz, shr12, raise_eq, sat, clip_fst (show (0 : Int) ≤ 0xffff by decide)]

/-- `pushScreenXY(x, y)`: the screen XY FIFO and FLAG change, nothing else. -/
theorem pushScreenXY_eq (x y : Int) (s : State) :
    pushScreenXY x y s =
      (s.withFlag (s.flag ||| ((clip x 0x3ff (-0x400) FlagBit.sx2Sat.mask).2 |||
        (clip y 0x3ff (-0x400) FlagBit.sy2Sat.mask).2))).withSxy
        ⟨s.sxy.e1, s.sxy.e2, ⟨BitVec.ofInt 16 (sat (-1024) 1023 x), BitVec.ofInt 16 (sat (-1024) 1023 y)⟩⟩ := by
  simp only [pushScreenXY, raise_eq, sat, pushFifo3, clip_fst (show (-0x400 : Int) ≤ 0x3ff by decide)]

/-- `pushScreenZ(z)`: the screen Z FIFO and FLAG change, nothing else. -/
theorem pushScreenZ_eq (z : Int) (s : State) :
    pushScreenZ z s = (s.withFlag (s.flag ||| (clip z 0xffff 0 FlagBit.sz3OtzSat.mask).2)).withSz
      ⟨s.sz.e1, s.sz.e2, s.sz.e3, BitVec.ofInt 16 (sat 0 65535 z)⟩ := by
  simp only [pushScreenZ, raise_eq, sat, pushFifo4, clip_fst (show (0 : Int) ≤ 0xffff by decide)]

/-- The flag set a colour push raises. -/
def colourFlags (m : Vec3 (BitVec 32)) : FlagSet :=
  (colorChannel m.x .colorRSat).2 ||| (colorChannel m.y .colorGSat).2 ||| (colorChannel m.z .colorBSat).2

@[simp] theorem hasBit_colourFlags (m : Vec3 (BitVec 32)) (b : FlagBit) :
    hasBit (colourFlags m) b = colourRaises m b := by
  simp only [colourFlags, colourRaises, hasBit_or, colorChannel, shr4, hasBit_clip_mask, channelClamped]

theorem colorChannel_fst (m : BitVec 32) (b : FlagBit) :
    BitVec.ofInt 8 (colorChannel m b).1 = channelOf m := by
  simp only [colorChannel, channelOf, shr4, sat, clip_fst (show (0 : Int) ≤ 0xff by decide)]

/-- `pushColor()`: the colour FIFO and FLAG change, nothing else. -/
theorem pushColor_eq (s : State) :
    pushColor s = (s.withFlag (s.flag ||| colourFlags s.mac)).withRgb
      (pushedColour s.rgb (colourOf s.mac s.rgbc.code)) := by
  simp only [pushColor, colorChannel_fst]
  rfl

/-- Loading the latches changes `SF` and `LM` alone. -/
theorem loadLatches_eq (sf lm : Bool) (s : State) : loadLatches sf lm s = s.withLatches sf lm := rfl

/-- `averageZ(v)`: `MAC[0]`, `OTZ` and FLAG change, nothing else. -/
theorem averageZ_eq (v : Int) (s : State) :
    averageZ v s =
      ((s.withFlag (s.flag ||| (check32 v ||| (clip (v / 4096) 65535 0 FlagBit.sz3OtzSat.mask).2))).withMac0
        (BitVec.ofInt 32 v)).withOtz (BitVec.ofInt 16 (sat 0 65535 (v / 4096))) := by
  simp [averageZ, setOtz_eq, setMac0_eq, BitVec.or_assoc]

end Sys2Proof.Machine
end

