-- ==== Sys2Proof/Laws/Commands.lean ====
section
/-! SUPPORT. One lemma for each stage and each shared body of the commands that says everything it does: the values of
the registers it writes, in the reference arithmetic of Safety.lean, the flag set it raises, and nothing else. -/

namespace Sys2Proof.Machine

open Sys2Proof.Safety

/-- A command's body that ends in a colour push: `MAC[1..3]`, `IR[1..3]`, the colour FIFO and FLAG. -/
def State.colourResult (s : State) (c : Vec3 Int) (lm : Bool) (g : FlagSet) : State :=
  (((s.withFlag (s.flag ||| g)).withMac (macTriple s.sf c)).withIr (regs16 (irInts s.sf lm c))).withRgb
    (pushedColour s.rgb (colourOf (macTriple s.sf c) s.rgbc.code))

/-- A three-lane step followed by a colour push. -/
theorem pushColor_setTriple (c : Vec3 Int) (lm : Bool) (s : State) :
    pushColor (setTriple c lm s) =
      s.colourResult c lm (tripleFlags s.sf lm c ||| colourFlags (macTriple s.sf c)) := by
  simp [pushColor_eq, setTriple_eq, State.colourResult, BitVec.or_assoc]

/-- A blend toward the far colour followed by a colour push. -/
theorem pushColor_interpolate (c : Vec3 Int) (lm : Bool) (s : State) :
    pushColor (interpolate c lm s) =
      s.colourResult (interpolated s s.sf c) lm
        (tripleFlags s.sf false (differenceSums s c) ||| tripleFlags s.sf lm (interpolated s s.sf c) |||
          colourFlags (macTriple s.sf (interpolated s s.sf c))) := by
  simp [pushColor_eq, interpolate_eq, State.colourResult, BitVec.or_assoc]

/-- The difference sums read the control registers alone. -/
theorem differenceSums_congr {s t : State} (hc : t.ctrl = s.ctrl) (c : Vec3 Int) :
    differenceSums t c = differenceSums s c := by
  simp [differenceSums, hc]

/-- The blend reads the control registers and `IR[0]` alone. -/
theorem interpolated_congr {s t : State} (hc : t.ctrl = s.ctrl) (hi : t.ir0 = s.ir0) (sf : Bool) (c : Vec3 Int) :
    interpolated t sf c = interpolated s sf c := by
  simp [interpolated, blendSums, differenceSums_congr hc, hi]

/-- Light-vector stage. -/
theorem lightVector_eq (n : Vertex) (lm : Bool) (s : State) :
    lightVector n lm s = setTriple (lightSums s n) lm s := by
  have h : ∀ i, laneSum (Mat3.signed s.ctrl.llm) (Vec3.signed (s.vertex n)) zeroTriple i =
      (lightSums s n).get i := by
    intro i
    cases i <;> simp [laneSum, shl12, zeroTriple, Vec3.get, dot, lightSums, rowTimes, Mat3.row, Mat3.signed,
      Vec3.signed, ints]
  simp only [lightVector, mulMatVec_eq, h]
  rfl

/-- Light-colour stage. -/
theorem lightColour_eq (lm : Bool) (s : State) :
    lightColour lm s = setTriple (colourSums s (ints s.ir)) lm s := rfl

/-- The product of the input colour and the current `IR[1..3]`. -/
theorem litColour_eq (s : State) : litColour s = productSums s (ints s.ir) := rfl

/-- The light-colour sums that follow the light-vector stage of vertex `n`. -/
def litSums (s : State) (sf lm : Bool) (n : Vertex) : Vec3 Int := colourSums s (irInts sf lm (lightSums s n))

/-- The products with the input colour that follow both lighting stages of vertex `n`. -/
def modulatedSums (s : State) (sf lm : Bool) (n : Vertex) : Vec3 Int :=
  productSums s (irInts sf lm (litSums s sf lm n))

/-- Both lighting stages of vertex `n`. -/
theorem lightColour_lightVector (n : Vertex) (lm : Bool) (s : State) :
    lightColour lm (lightVector n lm s) =
      ((s.withFlag (s.flag ||| (tripleFlags s.sf lm (lightSums s n) |||
          tripleFlags s.sf lm (litSums s s.sf lm n)))).withMac (macTriple s.sf (litSums s s.sf lm n))).withIr
        (regs16 (irInts s.sf lm (litSums s s.sf lm n))) := by
  have h : colourSums (setTriple (lightSums s n) lm s) (ints (setTriple (lightSums s n) lm s).ir) =
      litSums s s.sf lm n := by
    simp only [setTriple_eq, State.withIr_ir, ints_regs16_irInts]; rfl
  rw [lightColour_eq, lightVector_eq, h]
  simp [setTriple_eq, BitVec.or_assoc]

theorem ncsBody_eq (n : Vertex) (lm : Bool) (s : State) :
    ncsBody n lm s =
      s.colourResult (litSums s s.sf lm n) lm
        (tripleFlags s.sf lm (lightSums s n) ||| tripleFlags s.sf lm (litSums s s.sf lm n) |||
          colourFlags (macTriple s.sf (litSums s s.sf lm n))) := by
  simp [ncsBody, lightColour_lightVector, pushColor_eq, State.colourResult, BitVec.or_assoc]

theorem ccBody_eq (lm : Bool) (s : State) :
    ccBody lm s =
      s.colourResult (productSums s (irInts s.sf lm (colourSums s (ints s.ir)))) lm
        (tripleFlags s.sf lm (colourSums s (ints s.ir)) |||
          tripleFlags s.sf lm (productSums s (irInts s.sf lm (colourSums s (ints s.ir)))) |||
          colourFlags (macTriple s.sf (productSums s (irInts s.sf lm (colourSums s (ints s.ir)))))) := by
  have h : litColour (lightColour lm s) = productSums s (irInts s.sf lm (colourSums s (ints s.ir))) := by
    rw [litColour_eq, lightColour_eq]
    simp only [setTriple_eq, State.withIr_ir, ints_regs16_irInts]; rfl
  simp only [ccBody, modulate, h, pushColor_setTriple]
  simp [lightColour_eq, setTriple_eq, State.colourResult, BitVec.or_assoc]

theorem cdpBody_eq (lm : Bool) (s : State) :
    cdpBody lm s =
      s.colourResult (interpolated s s.sf (productSums s (irInts s.sf lm (colourSums s (ints s.ir))))) lm
        (tripleFlags s.sf lm (colourSums s (ints s.ir)) |||
          tripleFlags s.sf false (differenceSums s (productSums s (irInts s.sf lm (colourSums s (ints s.ir))))) |||
          tripleFlags s.sf lm (interpolated s s.sf (productSums s (irInts s.sf lm (colourSums s (ints s.ir))))) |||
          colourFlags
            (macTriple s.sf (interpolated s s.sf (productSums s (irInts s.sf lm (colourSums s (ints s.ir))))))) := by
  have h : litColour (lightColour lm s) = productSums s (irInts s.sf lm (colourSums s (ints s.ir))) := by
    rw [litColour_eq, lightColour_eq]
    simp only [setTriple_eq, State.withIr_ir, ints_regs16_irInts]; rfl
  have hc : (lightColour lm s).ctrl = s.ctrl := by simp [lightColour_eq, setTriple_eq]
  have hi : (lightColour lm s).ir0 = s.ir0 := by simp [lightColour_eq, setTriple_eq]
  simp only [cdpBody, cueLit, h, pushColor_interpolate, differenceSums_congr hc, interpolated_congr hc hi]
  simp [lightColour_eq, setTriple_eq, State.colourResult, BitVec.or_assoc]

theorem nccsBody_eq (n : Vertex) (lm : Bool) (s : State) :
    nccsBody n lm s =
      s.colourResult (modulatedSums s s.sf lm n) lm
        (tripleFlags s.sf lm (lightSums s n) ||| tripleFlags s.sf lm (litSums s s.sf lm n) |||
          tripleFlags s.sf lm (modulatedSums s s.sf lm n) |||
          colourFlags (macTriple s.sf (modulatedSums s s.sf lm n))) := by
  have h : litColour (lightColour lm (lightVector n lm s)) = modulatedSums s s.sf lm n := by
    rw [litColour_eq, lightColour_lightVector]
    simp only [State.withIr_ir, ints_regs16_irInts]; rfl
  simp only [nccsBody, modulate, h, pushColor_setTriple]
  simp [lightColour_lightVector, State.colourResult, BitVec.or_assoc]

theorem ncdsBody_eq (n : Vertex) (lm : Bool) (s : State) :
    ncdsBody n lm s =
      s.colourResult (interpolated s s.sf (modulatedSums s s.sf lm n)) lm
        (tripleFlags s.sf lm (lightSums s n) ||| tripleFlags s.sf lm (litSums s s.sf lm n) |||
          tripleFlags s.sf false (differenceSums s (modulatedSums s s.sf lm n)) |||
          tripleFlags s.sf lm (interpolated s s.sf (modulatedSums s s.sf lm n)) |||
          colourFlags (macTriple s.sf (interpolated s s.sf (modulatedSums s s.sf lm n)))) := by
  have h : litColour (lightColour lm (lightVector n lm s)) = modulatedSums s s.sf lm n := by
    rw [litColour_eq, lightColour_lightVector]
    simp only [State.withIr_ir, ints_regs16_irInts]; rfl
  have hc : (lightColour lm (lightVector n lm s)).ctrl = s.ctrl := by simp [lightColour_lightVector]
  have hi : (lightColour lm (lightVector n lm s)).ir0 = s.ir0 := by simp [lightColour_lightVector]
  simp only [ncdsBody, cueLit, h, pushColor_interpolate, differenceSums_congr hc, interpolated_congr hc hi]
  simp [lightColour_lightVector, State.colourResult, BitVec.or_assoc]

/-- The colour that `dpcs(useFifo)` cues. -/
def cuedColour (useFifo : Bool) (s : State) : Color := if useFifo then s.rgb.e0 else s.rgbc

theorem dpcsBody_eq (useFifo lm : Bool) (s : State) :
    dpcsBody useFifo lm s = pushColor (interpolate (colourTimes65536 (cuedColour useFifo s)) lm s) := rfl

/-- The first part of `rtps(n)`: `MAC[1..3]`, `IR[1..3]`, the screen Z FIFO and FLAG. -/
theorem rtpsTransform_eq (n : Vertex) (lm : Bool) (s : State) :
    rtpsTransform n lm s =
      (((s.withFlag (s.flag ||| (laneFlags .one s.sf lm (transformSums s n).x |||
          laneFlags .two s.sf lm (transformSums s n).y ||| check44 (transformSums s n).z .mac3Pos .mac3Neg |||
          (clip ((transformSums s n).z / 4096) 0x7fff (irMin (s.sf && lm)) FlagBit.ir3Sat.mask).2 |||
          (clip ((transformSums s n).z / 4096) 0xffff 0 FlagBit.sz3OtzSat.mask).2))).withMac
        (macTriple s.sf (transformSums s n))).withIr (regs16 (irInts s.sf lm (transformSums s n)))).withSz
        ⟨s.sz.e1, s.sz.e2, s.sz.e3, BitVec.ofInt 16 (sat 0 65535 ((transformSums s n).z / 4096))⟩ := by
  have h1 : rtpsSum n s .one = (transformSums s n).x := rfl
  have h2 : rtpsSum n s .two = (transformSums s n).y := rfl
  have h3 : rtpsSum n s .three = (transformSums s n).z := rfl
  cases hsf : s.sf
  · cases lm <;> simp [rtpsTransform, rtpsIr3, h1, h2, h3, setMacAndIr_eq, setMac_eq, pushScreenZ_eq, raise_eq, hsf,
      BitVec.or_assoc, shr12, macPosBit, macNegBit, irMin_eq_irLow, clip_fst, irInts, regs16, macTriple,
      Vec3.set, irInt, scaled, sat, irLow]
  · simp [rtpsTransform, rtpsIr3, h1, h2, h3, setMacAndIr_eq, setMac_eq, pushScreenZ_eq, setIr_eq, hsf,
      BitVec.or_assoc, shr12, macPosBit, macNegBit, irMin_eq_irLow, irInts, regs16, macTriple,
      Vec3.set, irInt, scaled, sat, irSatBit]

/-- The screen sum of an `IR` value and an offset (42_geometry R112 step 7). -/
def screenSum (q : Nat) (ir : Int) (offset : BitVec 32) : Int := q * ir + offset.toInt

/-- The depth-cue sum (42_geometry R112 step 9). -/
def cueSum (q : Nat) (s : State) : Int := q * s.ctrl.dqa.toInt + s.ctrl.dqb.toInt

/-- The flag set of the second part of `rtps(n)`. -/
def projectFlags (g : FlagSet) (x y d : Int) : FlagSet :=
  g ||| check32 x ||| check32 y ||| (clip (x / 65536) 0x3ff (-0x400) FlagBit.sx2Sat.mask).2 |||
    (clip (y / 65536) 0x3ff (-0x400) FlagBit.sy2Sat.mask).2 ||| check32 d |||
    (clip (d / 4096) 4096 0 FlagBit.ir0Sat.mask).2

/-- The second part of `rtps(n)` on given sums: `MAC[0]`, `IR[0]`, the screen XY FIFO and FLAG. -/
def State.projected (s : State) (g : FlagSet) (x y d : Int) : State :=
  (((s.withFlag (s.flag ||| projectFlags g x y d)).withMac0 (BitVec.ofInt 32 d)).withIr0
    (BitVec.ofInt 16 (sat 0 4096 (d / 4096)))).withSxy
    ⟨s.sxy.e1, s.sxy.e2,
      ⟨BitVec.ofInt 16 (sat (-1024) 1023 (x / 65536)), BitVec.ofInt 16 (sat (-1024) 1023 (y / 65536))⟩⟩

/-- The second part of `rtps(n)`. -/
theorem rtpsProject_eq (s : State) :
    rtpsProject s =
      s.projected (divideUNR s.ctrl.h s.sz.e3).2 (screenSum (divideUNR s.ctrl.h s.sz.e3).1 s.ir.x.toInt s.ctrl.ofx)
        (screenSum (divideUNR s.ctrl.h s.sz.e3).1 s.ir.y.toInt s.ctrl.ofy)
        (cueSum (divideUNR s.ctrl.h s.sz.e3).1 s) := by
  simp only [rtpsProject, rtpsDepthCue, rtpsScreen, setMacAndIr0_eq, pushScreenXY_eq, setMac0_eq, raise_eq, shr16,
    State.projected, projectFlags, screenSum, cueSum]
  generalize divideUNR s.ctrl.h s.sz.e3 = q
  simp [BitVec.or_assoc]

/-- The body `rtps(n)`: the transform, then the projection by the Z it pushed. -/
theorem rtpsBody_eq (n : Vertex) (lm : Bool) (s : State) :
    rtpsBody n lm s =
      let c := transformSums s n
      let q := divideUNR s.ctrl.h (BitVec.ofInt 16 (sat 0 65535 (c.z / 4096)))
      (rtpsTransform n lm s).projected q.2 (screenSum q.1 (irInt s.sf lm c.x) s.ctrl.ofx)
        (screenSum q.1 (irInt s.sf lm c.y) s.ctrl.ofy) (cueSum q.1 s) := by
  have hx : (BitVec.ofInt 16 (irInt s.sf lm (transformSums s n).x)).toInt = irInt s.sf lm (transformSums s n).x :=
    toInt_ofInt16 (irInt_bounds ..).1 (irInt_bounds ..).2
  have hy : (BitVec.ofInt 16 (irInt s.sf lm (transformSums s n).y)).toInt = irInt s.sf lm (transformSums s n).y :=
    toInt_ofInt16 (irInt_bounds ..).1 (irInt_bounds ..).2
  simp only [rtpsBody, rtpsProject_eq]
  simp only [rtpsTransform_eq, State.withSz_ctrl, State.withSz_sz, State.withSz_ir, State.withIr_ctrl,
    State.withIr_ir, State.withMac_ctrl, State.withFlag_ctrl, regs16, irInts, hx, hy, cueSum]

/-- The sums of the flag step of the `tx` = 2 path (45_general R151). -/
def farColourSums (s : State) (m : Mat3 Int) (v : Vec3 Int) : Vec3 Int :=
  ⟨s.ctrl.fc.x.toInt * 4096 + m.r1.x * v.x, s.ctrl.fc.y.toInt * 4096 + m.r2.x * v.x,
    s.ctrl.fc.z.toInt * 4096 + m.r3.x * v.x⟩

/-- The sums of the value step of the `tx` = 2 path (45_general R151). -/
def lastColumnSums (m : Mat3 Int) (v : Vec3 Int) : Vec3 Int :=
  ⟨m.r1.y * v.y + m.r1.z * v.z, m.r2.y * v.y + m.r2.z * v.z, m.r3.y * v.y + m.r3.z * v.z⟩

/-- The `tx` = 2 path: the flags of both steps, the values of the second alone. -/
theorem mvmvaFarColour_eq (m : Mat3 Int) (v : Vec3 Int) (lm : Bool) (s : State) :
    mvmvaFarColour m v lm s =
      ((s.withFlag (s.flag ||| (tripleFlags s.sf false (farColourSums s m v) |||
          tripleFlags s.sf lm (lastColumnSums m v)))).withMac (macTriple s.sf (lastColumnSums m v))).withIr
        (regs16 (irInts s.sf lm (lastColumnSums m v))) := by
  have h1 : ∀ t, farColourValueStep m v lm t = setTriple (lastColumnSums m v) lm t := fun _ => rfl
  have h2 : farColourFlagStep m v s = setTriple (farColourSums s m v) false s := rfl
  simp only [mvmvaFarColour, h1, h2]
  simp [setTriple_eq, BitVec.or_assoc]

theorem selectMatrix_eq (mx : MatrixSel) (s : State) : selectMatrix mx s = namedMatrix s mx := by
  cases mx <;> rfl

theorem selectVector_eq (vx : VectorSel) (s : State) : selectVector vx s = namedVector s vx := by
  cases vx <;> rfl

theorem selectTranslation_eq (tx : TranslationSel) (s : State) : selectTranslation tx s = namedTranslation s tx := by
  cases tx <;> rfl

/-- `mvmva` with the far colour. -/
theorem mvmvaBody_fc (mx : MatrixSel) (vx : VectorSel) (lm : Bool) (s : State) :
    mvmvaBody mx vx .fc lm s = mvmvaFarColour (namedMatrix s mx) (namedVector s vx) lm s := by
  simp only [mvmvaBody, selectMatrix_eq, selectVector_eq]

/-- `mvmva` with any other translation is the three-lane step on the sums of the product. -/
theorem mvmvaBody_eq (mx : MatrixSel) (vx : VectorSel) (tx : TranslationSel) (h : tx ≠ .fc) (lm : Bool) (s : State) :
    mvmvaBody mx vx tx lm s =
      setTriple (matrixSums (namedMatrix s mx) (namedVector s vx) (namedTranslation s tx)) lm s := by
  cases tx
  case fc => exact absurd rfl h
  all_goals
    simp only [mvmvaBody, selectMatrix_eq, selectVector_eq, selectTranslation_eq]
    rfl

end Sys2Proof.Machine
end

