-- ==== Sys2Proof/Laws/Divider.lean ====
section
/-! SUPPORT. Laws of the divider: its two exits, what it can answer, and the count of leading zeros. -/

namespace Sys2Proof.Machine

/-- The un-clamped quotient of the approximation (41_divider R104). -/
def quotientUNR (lhs rhs : BitVec 16) : Nat :=
  (lhs.toNat * 2 ^ clz16 rhs * recipUNR (rhs.toNat * 2 ^ clz16 rhs) + 0x8000) / 65536

/-- The overflow exits and the ordinary one. -/
theorem divideUNR_eq (lhs rhs : BitVec 16) :
    divideUNR lhs rhs =
      if 2 * rhs.toNat ≤ lhs.toNat ∨ quotientUNR lhs rhs > 0x1ffff then divideOverflow
      else (quotientUNR lhs rhs, noFlags) := by
  have e : divideUNR lhs rhs =
      if 2 * rhs.toNat ≤ lhs.toNat then divideOverflow
      else if quotientUNR lhs rhs > 0x1ffff then divideOverflow else (quotientUNR lhs rhs, noFlags) := by
    unfold divideUNR quotientUNR
    exact rfl
  rw [e]
  by_cases h : 2 * rhs.toNat ≤ lhs.toNat
  · rw [if_pos h, if_pos (.inl h)]
  · rw [if_neg h]
    by_cases h2 : quotientUNR lhs rhs > 0x1ffff
    · rw [if_pos h2, if_pos (.inr h2)]
    · rw [if_neg h2, if_neg (by rintro (h3 | h3) <;> contradiction)]

/-- The quotient never exceeds 0x1ffff. -/
theorem divideUNR_le (lhs rhs : BitVec 16) : (divideUNR lhs rhs).1 ≤ 0x1ffff := by
  rw [divideUNR_eq]
  split
  · exact Nat.le_refl _
  · next h => exact Nat.le_of_not_lt fun h2 => h (.inr h2)

/-- The only flag the divider can raise. -/
theorem hasBit_divideUNR (lhs rhs : BitVec 16) (b : FlagBit) :
    hasBit (divideUNR lhs rhs).2 b =
      (decide (2 * rhs.toNat ≤ lhs.toNat ∨ quotientUNR lhs rhs > 0x1ffff) && decide (FlagBit.divOvf = b)) := by
  rw [divideUNR_eq]
  split
  · next h => simp only [divideOverflow, hasBit_mask, h, decide_true, Bool.true_and]
  · next h => simp only [hasBit_noFlags, h, decide_false, Bool.false_and]

/-- The counted zeros are 0 bits, and the count stops at a 1 bit or at the width. -/
theorem leadingZeros_spec (x : BitVec 16) (k : Nat) :
    leadingZeros x k ≤ k ∧ (∀ j < leadingZeros x k, x.getLsbD (k - 1 - j) = false) ∧
      (leadingZeros x k < k → x.getLsbD (k - 1 - leadingZeros x k) = true) := by
  induction k with
  | zero => simp [leadingZeros]
  | succ k ih =>
    by_cases h : x.getLsbD k
    · simp [leadingZeros, h]
    · obtain ⟨h1, h2, h3⟩ := ih
      have e : leadingZeros x (k + 1) = leadingZeros x k + 1 := by simp [leadingZeros, h]
      rw [e]
      refine ⟨by omega, ?_, ?_⟩
      · intro j hj
        rcases Nat.eq_zero_or_pos j with rfl | hp
        · simpa using h
        · have := h2 (j - 1) (by omega)
          rwa [show k + 1 - 1 - j = k - 1 - (j - 1) by omega]
      · intro hl
        have := h3 (by omega)
        rwa [show k + 1 - 1 - (leadingZeros x k + 1) = k - 1 - leadingZeros x k by omega]

end Sys2Proof.Machine
end

