-- ==== Sys2Proof/Laws/PerInstr.lean ====
section
/-! SUPPORT. The family `Encoding`, made per instruction: every field of an encoded command reads back as the
command's own (30_encoding R65 to R69). -/

namespace Sys2Proof.Laws

/-- The function number of a packed word. -/
theorem fnField_packWord (c : BitVec 7) (s : Bool) (sel : BitVec 6) (l : Bool) (f : BitVec 6) :
    fnField (packWord c s sel l f) = f := by
  apply BitVec.eq_of_getLsbD_eq
  intro i hi
  simp only [fnField, packWord, BitVec.getLsbD_extractLsb', BitVec.getLsbD_append, Nat.zero_add, hi, decide_true,
    Bool.true_and, if_true]

/-- The `lm` bit of a packed word. -/
theorem lmField_packWord (c : BitVec 7) (s : Bool) (sel : BitVec 6) (l : Bool) (f : BitVec 6) :
    lmField (packWord c s sel l f) = l := by
  simp only [lmField, packWord, BitVec.getLsbD_append]
  cases l <;> rfl

/-- The `sf` bit of a packed word. -/
theorem sfField_packWord (c : BitVec 7) (s : Bool) (sel : BitVec 6) (l : Bool) (f : BitVec 6) :
    sfField (packWord c s sel l f) = s := by
  simp only [sfField, packWord, BitVec.getLsbD_append]
  cases s <;> rfl

/-- Bits 18:13 of a packed word. -/
theorem selector_packWord (c : BitVec 7) (s : Bool) (sel : BitVec 6) (l : Bool) (f : BitVec 6) :
    (packWord c s sel l f).extractLsb' 13 6 = sel := by
  apply BitVec.eq_of_getLsbD_eq
  intro i hi
  have h1 : ¬ 13 + i < 6 := by omega
  have h2 : ¬ 13 + i - 6 < 4 := by omega
  have h3 : ¬ 13 + i - 6 - 4 < 1 := by omega
  have h4 : ¬ 13 + i - 6 - 4 - 1 < 2 := by omega
  have h5 : 13 + i - 6 - 4 - 1 - 2 = i := by omega
  simp only [packWord, BitVec.getLsbD_extractLsb', BitVec.getLsbD_append, h1, h2, h3, h4, h5, hi, decide_true,
    Bool.true_and, if_true, if_false]

namespace Encoding

/-- Every field of the encoded command reads back as the command's own, and the command is well formed. -/
def Statement (i : Instr) : Prop :=
  i.wellFormed = true ∧ fnField (encode i) = fnOf i ∧ sfField (encode i) = sfOf i ∧ lmField (encode i) = lmOf i ∧
    (encode i).extractLsb' 13 6 = selectorBits i

/-- All the fields but well-formedness, for any command. -/
theorem fields (i : Instr) (h : i.wellFormed = true) : Statement i :=
  ⟨h, fnField_packWord .., sfField_packWord .., lmField_packWord .., selector_packWord ..⟩

theorem rtps (sf lm : Bool) : Statement (.rtps sf lm) := fields _ rfl
theorem nclip (sf lm : Bool) : Statement (.nclip sf lm) := fields _ rfl
theorem op (sf lm : Bool) : Statement (.op sf lm) := fields _ rfl
theorem dpcs (sf lm : Bool) : Statement (.dpcs sf lm) := fields _ rfl
theorem intpl (sf lm : Bool) : Statement (.intpl sf lm) := fields _ rfl
theorem mvmva (sf lm : Bool) (mx : MatrixSel) (vx : VectorSel) (tx : TranslationSel) :
    Statement (.mvmva sf lm mx vx tx) := fields _ rfl
theorem ncds (sf lm : Bool) : Statement (.ncds sf lm) := fields _ rfl
theorem cdp (sf lm : Bool) : Statement (.cdp sf lm) := fields _ rfl
theorem ncdt (sf lm : Bool) : Statement (.ncdt sf lm) := fields _ rfl
theorem nccs (sf lm : Bool) : Statement (.nccs sf lm) := fields _ rfl
theorem cc (sf lm : Bool) : Statement (.cc sf lm) := fields _ rfl
theorem ncs (sf lm : Bool) : Statement (.ncs sf lm) := fields _ rfl
theorem nct (sf lm : Bool) : Statement (.nct sf lm) := fields _ rfl
theorem sqr (sf lm : Bool) : Statement (.sqr sf lm) := fields _ rfl
theorem dcpl (sf lm : Bool) : Statement (.dcpl sf lm) := fields _ rfl
theorem dpct (sf lm : Bool) : Statement (.dpct sf lm) := fields _ rfl
theorem avsz3 (sf lm : Bool) : Statement (.avsz3 sf lm) := fields _ rfl
theorem avsz4 (sf lm : Bool) : Statement (.avsz4 sf lm) := fields _ rfl
theorem rtpt (sf lm : Bool) : Statement (.rtpt sf lm) := fields _ rfl
theorem gpf (sf lm : Bool) : Statement (.gpf sf lm) := fields _ rfl
theorem gpl (sf lm : Bool) : Statement (.gpl sf lm) := fields _ rfl
theorem ncct (sf lm : Bool) : Statement (.ncct sf lm) := fields _ rfl

end Encoding

end Sys2Proof.Laws
end

