-- ==== Sys2Proof/Laws/Port.lean ====
section
/-! SUPPORT. Laws of the register port: the index map is one to one, packing a word undoes unpacking it, and the
value of a packed word in terms of its fields. -/

namespace Sys2Proof.Machine

/-- The index of a register word leads back to it. -/
@[simp] theorem regOfIndex_indexOf (r : RegName) : regOfIndex (indexOf r) = some r := by cases r <;> rfl

/-- A register word stands at the one index that leads to it. -/
theorem indexOf_of_regOfIndex {idx : BitVec 6} {r : RegName} (h : regOfIndex idx = some r) : indexOf r = idx := by
  have all : ∀ idx, (regOfIndex idx).all (fun r => indexOf r = idx) := by decide +kernel
  simpa [h] using all idx

/-- No two register words share an index. -/
theorem indexOf_injective {r r' : RegName} (h : indexOf r = indexOf r') : r = r' := by
  have := regOfIndex_indexOf r
  rw [h, regOfIndex_indexOf] at this
  exact (Option.some.inj this).symm

@[simp] theorem pairWord_halves (w : Word) : pairWord (lowHalf w) (highHalf w) = w := by
  apply BitVec.eq_of_getLsbD_eq
  intro k hk
  simp only [pairWord, lowHalf, highHalf, BitVec.getLsbD_append, BitVec.getLsbD_extractLsb']
  by_cases h : k < 16
  · simp [h]
  · simp [h, show 16 + (k - 16) = k by omega, show k - 16 < 16 by omega]

@[simp] theorem lowHalf_pairWord (a b : BitVec 16) : lowHalf (pairWord a b) = a := by
  apply BitVec.eq_of_getLsbD_eq
  intro k hk
  simp only [pairWord, lowHalf, BitVec.getLsbD_append, BitVec.getLsbD_extractLsb', hk, decide_true, Bool.true_and,
    Nat.zero_add, if_true]

@[simp] theorem highHalf_pairWord (a b : BitVec 16) : highHalf (pairWord a b) = b := by
  apply BitVec.eq_of_getLsbD_eq
  intro k hk
  simp only [pairWord, highHalf, BitVec.getLsbD_append, BitVec.getLsbD_extractLsb', hk, decide_true, Bool.true_and,
    show ¬ 16 + k < 16 by omega, if_false, show 16 + k - 16 = k by omega]

@[simp] theorem lowHalf_signedWord (a : BitVec 16) : lowHalf (signedWord a) = a := by
  apply BitVec.eq_of_getLsbD_eq
  intro k hk
  simp only [signedWord, lowHalf, BitVec.getLsbD_signExtend, BitVec.getLsbD_extractLsb', hk, decide_true,
    Bool.true_and, Nat.zero_add, if_true, show k < 32 by omega]

@[simp] theorem lowHalf_unsignedWord (a : BitVec 16) : lowHalf (unsignedWord a) = a := by
  apply BitVec.eq_of_getLsbD_eq
  intro k hk
  simp only [unsignedWord, lowHalf, BitVec.getLsbD_setWidth, BitVec.getLsbD_extractLsb', hk, decide_true,
    Bool.true_and, Nat.zero_add, show k < 32 by omega]

@[simp] theorem colorOfWord_colorWord (c : Color) : colorOfWord (colorWord c) = c := by
  obtain ⟨r, g, b, code⟩ := c
  simp only [colorOfWord, colorWord, Color.mk.injEq]
  refine ⟨?_, ?_, ?_, ?_⟩ <;>
  · apply BitVec.eq_of_getLsbD_eq
    intro k hk
    simp only [BitVec.getLsbD_append, BitVec.getLsbD_extractLsb', hk, decide_true, Bool.true_and]
    interval_cases k <;> simp

@[simp] theorem colorWord_colorOfWord (w : Word) : colorWord (colorOfWord w) = w := by
  apply BitVec.eq_of_getLsbD_eq
  intro k hk
  simp only [colorOfWord, colorWord, BitVec.getLsbD_append, BitVec.getLsbD_extractLsb']
  interval_cases k <;> simp

@[simp] theorem flagOfWord_flagWord (f : FlagSet) : flagOfWord (flagWord f) = f := by
  apply BitVec.eq_of_getLsbD_eq
  intro k hk
  simp only [flagOfWord, flagWord, BitVec.getLsbD_append, BitVec.getLsbD_extractLsb', hk, decide_true, Bool.true_and,
    show ¬ 12 + k < 12 by omega, if_false, show 12 + k - 12 = k by omega, if_true]

theorem pairWord_toNat (lo hi : BitVec 16) : (pairWord lo hi).toNat = lo.toNat + hi.toNat * 65536 := by
  rw [pairWord, BitVec.toNat_append, Nat.shiftLeft_eq, Nat.mul_comm, ← Nat.two_pow_add_eq_or_of_lt lo.isLt]
  omega

theorem colorWord_toNat (c : Color) :
    (colorWord c).toNat = c.r.toNat + c.g.toNat * 256 + c.b.toNat * 65536 + c.code.toNat * 16777216 := by
  obtain ⟨r, g, b, code⟩ := c
  simp only [colorWord, BitVec.toNat_append, Nat.shiftLeft_eq, Nat.mul_comm _ (2 ^ 8)]
  rw [← Nat.two_pow_add_eq_or_of_lt b.isLt, ← Nat.two_pow_add_eq_or_of_lt g.isLt, ← Nat.two_pow_add_eq_or_of_lt r.isLt]
  omega

theorem signedWord_toInt (x : BitVec 16) : (signedWord x).toInt = x.toInt :=
  BitVec.toInt_signExtend_of_le (by decide)

theorem unsignedWord_toNat (x : BitVec 16) : (unsignedWord x).toNat = x.toNat := by
  rw [unsignedWord, BitVec.toNat_setWidth, Nat.mod_eq_of_lt (Nat.lt_trans x.isLt (by decide))]

end Sys2Proof.Machine
end

