-- ==== Sys2Proof/Laws/Step.lean ====
section
/-! SUPPORT. What one step can do: one lemma for each kind of transaction, and the inversion lemma from which
invariants of `step` follow. -/

namespace Sys2Proof.Machine

/-- What a step that answers a next state did: nothing was waiting, or it took the oldest transaction. -/
theorem step_next {s t : State} (h : step s = .next t) :
    (s.pending = [] ∧ t = s) ∨
      ∃ tx rest, s.pending = tx :: rest ∧ applyTransaction tx (s.withPending rest) = .next t := by
  unfold step at h
  split at h
  · next hp => exact .inl ⟨hp, by injection h with h; exact h.symm⟩
  · next tx rest hp => exact .inr ⟨tx, rest, hp, h⟩

/-- What a transaction that answers a next state did. -/
theorem applyTransaction_next {tx : Transaction} {s t : State} (h : applyTransaction tx s = .next t) :
    (tx = .reset ∧ t = { State.reset with mx3Const60 := s.mx3Const60, pending := s.pending, replies := s.replies }) ∨
    (∃ idx r, tx = .regRead idx ∧ regOfIndex idx = some r ∧ t = s.withReplies (.word (readReg r s) :: s.replies)) ∨
    (∃ idx w r, tx = .regWrite idx w ∧ regOfIndex idx = some r ∧ t = writeReg r w s) ∨
    (tx = .clrFlag ∧ t = s.withFlag noFlags) ∨
    (∃ cw i u, tx = .command cw ∧ decode cw = .ok i ∧ exec i s = .next u ∧
      t = u.withReplies (.illegal false :: u.replies)) := by
  cases tx with
  | reset => exact .inl ⟨rfl, by injection h with h; exact h.symm⟩
  | regRead idx =>
    simp only [applyTransaction, execRegRead] at h
    split at h
    · next r hr => exact .inr (.inl ⟨idx, r, rfl, hr, by injection h with h; exact h.symm⟩)
    · cases h
  | regWrite idx w =>
    simp only [applyTransaction, execRegWrite] at h
    split at h
    · next r hr => exact .inr (.inr (.inl ⟨idx, w, r, rfl, hr, by injection h with h; exact h.symm⟩))
    · cases h
  | clrFlag => exact .inr (.inr (.inr (.inl ⟨rfl, by injection h with h; exact h.symm⟩)))
  | command cw =>
    simp only [applyTransaction, execCommand] at h
    split at h
    · next i hi =>
      cases he : exec i s with
      | next u =>
        rw [he] at h
        exact .inr (.inr (.inr (.inr ⟨cw, i, u, rfl, hi, he, by injection h with h; exact h.symm⟩)))
      | fault f => rw [he] at h; cases h
      | refused r => rw [he] at h; cases h
    · cases h

end Sys2Proof.Machine
end

