-- ==== Sys2Proof/Machine/Listing.lean ====
section
/-! DEFINITION. The listings of 30_encoding R75 and R76: each line stands for one transaction. -/

namespace Sys2Proof.Machine

/-- One line of a listing (30_encoding R75, R76). -/
inductive Line where
  /-- a command line, as the assembler reads it (R75) -/
  | command (i : Instr)
  /-- `reset` -/
  | reset
  /-- `wr NAME, value` -/
  | wr (r : RegName) (w : Word)
  /-- `rd NAME` -/
  | rd (r : RegName)
  /-- `clrflag` -/
  | clrflag
deriving DecidableEq, Repr

/-- The transaction a line stands for: the assembler's word for a command (30_encoding R75), and for a host
operation the transaction of R76, a name standing for its index. -/
def transactionOf : Line → Transaction
  | .command i => .command (encode i)
  | .reset => .reset
  | .wr r w => .regWrite (indexOf r) w
  | .rd r => .regRead (indexOf r)
  | .clrflag => .clrFlag

/-- The host issues the transactions of a listing in order (95_test_vectors section 3). -/
def issueListing (lines : List Line) (s : State) : State := issue (lines.map transactionOf) s

end Sys2Proof.Machine
end

