-- ==== Sys2Proof/Tests/Slice0.lean ====
section
/-! SUPPORT. Tests of the model against the spec's own words and vectors (95_test_vectors and the worked examples of
the rules), the well-formedness smoke tests, and a witness for the hypotheses of every statement that has some. -/

namespace Sys2Proof.Tests

open Sys2Proof Sys2Proof.Machine Sys2Proof.Safety

/-! ### Helpers -/

/-- The register file after a list of host writes from reset. -/
def setup (ws : List (RegName × Word)) : State := ws.foldl (fun s p => writeReg p.1 p.2 s) State.reset

/-- `s` after one step that applies one transaction; none when the step is refused. -/
def after (tx : Transaction) (s : State) : Option State :=
  match step (s.withPending [tx]) with
  | .next t => some t
  | .fault _ => none
  | .refused _ => none

/-- Register words read after one COMMAND. -/
def wordsAfter (cw : Word) (rs : List RegName) (s : State) : Option (List Word) :=
  (after (.command cw) s).map fun t => rs.map fun r => readReg r t

/-- What a step answers, without the next state. -/
def refusalOf (s : State) : Option Refusal :=
  match step s with
  | .next _ => none
  | .fault _ => none
  | .refused r => some r

/-! ### Well-formedness: each check refuses an ill-formed term -/

theorem test_wellFormed_refuses_read_of_reserved_index : (Transaction.regRead 15).wellFormed = false := by decide

theorem test_wellFormed_refuses_write_of_reserved_index : (Transaction.regWrite 23 0).wellFormed = false := by decide

theorem test_wellFormed_refuses_unassigned_function : (Transaction.command 0x4A000000).wellFormed = false := by decide

theorem test_wellFormed_accepts_legal_transactions :
    (Transaction.regRead 14).wellFormed = true ∧ (Transaction.regWrite 63 0).wellFormed = true ∧
      (Transaction.command 0x4A080001).wellFormed = true ∧ Transaction.reset.wellFormed = true ∧
      Transaction.clrFlag.wellFormed = true := by decide

/-! ### Decoding: one word for each command, its fields written out from the format of R65: `cop`, `fake`, `sf`,
`mx`, `vx`, `tx`, two ignored bits, `lm`, four ignored bits, `fn` (the table of R66) -/

theorem test_decode_rtps : decode 0b01001010000000000000000000000001 = .ok (.rtps false false) := by decide

theorem test_decode_nclip : decode 0b01001010000010000000000000000110 = .ok (.nclip true false) := by decide

theorem test_decode_op : decode 0b01001010000000000000010000001100 = .ok (.op false true) := by decide

theorem test_decode_dpcs : decode 0b01001010000010000000010000010000 = .ok (.dpcs true true) := by decide

theorem test_decode_intpl : decode 0b01001010000000000000000000010001 = .ok (.intpl false false) := by decide

theorem test_decode_mvmva : decode 0b01001010000010110010000000010010 = .ok (.mvmva true false .llm .v2 .bk) := by decide

theorem test_decode_ncds : decode 0b01001010000000000000010000010011 = .ok (.ncds false true) := by decide

theorem test_decode_cdp : decode 0b01001010000010000000010000010100 = .ok (.cdp true true) := by decide

theorem test_decode_ncdt : decode 0b01001010000000000000000000010110 = .ok (.ncdt false false) := by decide

theorem test_decode_nccs : decode 0b01001010000010000000000000011011 = .ok (.nccs true false) := by decide

theorem test_decode_cc : decode 0b01001010000000000000010000011100 = .ok (.cc false true) := by decide

theorem test_decode_ncs : decode 0b01001010000010000000010000011110 = .ok (.ncs true true) := by decide

theorem test_decode_nct : decode 0b01001010000000000000000000100000 = .ok (.nct false false) := by decide

theorem test_decode_sqr : decode 0b01001010000010000000000000101000 = .ok (.sqr true false) := by decide

theorem test_decode_dcpl : decode 0b01001010000000000000010000101001 = .ok (.dcpl false true) := by decide

theorem test_decode_dpct : decode 0b01001010000010000000010000101010 = .ok (.dpct true true) := by decide

theorem test_decode_avsz3 : decode 0b01001010000000000000000000101101 = .ok (.avsz3 false false) := by decide

theorem test_decode_avsz4 : decode 0b01001010000010000000000000101110 = .ok (.avsz4 true false) := by decide

theorem test_decode_rtpt : decode 0b01001010000000000000010000110000 = .ok (.rtpt false true) := by decide

theorem test_decode_gpf : decode 0b01001010000010000000010000111101 = .ok (.gpf true true) := by decide

theorem test_decode_gpl : decode 0b01001010000000000000000000111110 = .ok (.gpl false false) := by decide

theorem test_decode_ncct : decode 0b01001010000010000000000000111111 = .ok (.ncct true false) := by decide

/-- 95_test_vectors 2.2: ignored bits. -/
theorem test_decode_ignores_bits :
    decode 0x00000001 = .ok (.rtps false false) ∧ decode 0xFFF7FBC1 = .ok (.rtps false false) ∧
      decode 0xFFFFFFFF = .ok (.ncct true true) ∧ decode 0x4A06E006 = .ok (.nclip false false) := by decide

/-- 95_test_vectors 2.2: the selectors of `mvmva`. -/
theorem test_decode_selectors :
    decode 0x4A0E6412 = .ok (.mvmva true true .buggy .v0 .zero) ∧
      decode 0x4A01E012 = .ok (.mvmva false false .rt .ir .zero) := by decide

/-- 95_test_vectors 2.2: unassigned function numbers. -/
theorem test_decode_rejects_unassigned :
    decode 0x4A000000 = .error (.unassignedFunction 0x00) ∧ decode 0x4A08043C = .error (.unassignedFunction 0x3C) ∧
      decode 0x4A000015 = .error (.unassignedFunction 0x15) ∧
      decode 0x4A00002F = .error (.unassignedFunction 0x2F) := by decide

/-- R75, R148: the assembler's words. -/
theorem test_encode_assembler_words :
    encode (.rtps true false) = 0x4A080001 ∧ encode (.nclip false false) = 0x4A000006 ∧
      encode (.mvmva true false .llm .v1 .bk) = 0x4A0AA012 := by decide

/-- The opcode table numbers the bits of the one 32-bit word. -/
theorem test_decodeTableWord : decodeTableWord 32 0x4A080001 = some (.rtps true false) ∧ decodeTableWord 32 0 = none := by
  decide

/-- R75: the disassembler prints every non-zero field. -/
theorem test_listing : listing (.mvmva true false .rt .ir .bk) = "mvmva sf=1 vx=3 tx=1" := by decide +kernel

/-! ### The register port (95_test_vectors 2.1) -/

theorem test_port_signed_register_reads_extended :
    (after (.regWrite 8 0x12348765) State.reset).map (readReg .IR0) = some 0xFFFF8765 := by decide

theorem test_port_unsigned_register_reads_zero_extended :
    (after (.regWrite 58 0xABCDFFFF) State.reset).map (readReg .H) = some 0x0000FFFF := by decide

theorem test_port_write_is_not_clamped :
    (after (.regWrite 12 0x7000F000) State.reset).map (readReg .SXY0) = some 0x7000F000 := by decide

theorem test_port_colour_packing :
    (after (.regWrite 6 0x34FF4080) State.reset).map (fun t => t.rgbc) = some ⟨0x80, 0x40, 0xFF, 0x34⟩ := by decide

theorem test_port_flag_error_bit :
    (after (.regWrite 63 0x00002000) State.reset).map (readReg .FLAG) = some 0x80002000 ∧
      (after (.regWrite 63 0x00400000) State.reset).map (readReg .FLAG) = some 0x00400000 := by decide

theorem test_port_flag_bit31_not_stored :
    (after (.regWrite 63 0x80000FFF) State.reset).map (readReg .FLAG) = some 0 := by decide

theorem test_port_read_answers_the_host :
    (after (.regRead 6) (setup [(.RGBC, 0x34FF4080)])).map (fun t => t.replies) = some [.word 0x34FF4080] := by decide

theorem test_port_reserved_index_refused :
    refusalOf (State.reset.withPending [.regRead 15]) = some (.reservedRegister 15) ∧
      refusalOf (State.reset.withPending [.regWrite 23 0]) = some (.reservedRegister 23) := by decide

/-! ### Sticky FLAG, CLRFLAG, RESET, illegal words (95_test_vectors 2.9, 2.10, 2.2) -/

theorem test_flag_is_sticky_over_a_command :
    wordsAfter 0x4A000028 [.MAC1, .IR1, .FLAG] (setup [(.IR1, 1), (.FLAG, 0x81000000)]) =
      some [1, 1, 0x81000000] := by decide +kernel

theorem test_clrflag : (after .clrFlag (setup [(.FLAG, 0xFFFFFFFF)])).map (readReg .FLAG) = some 0 := by decide

theorem test_reset :
    (after .reset (setup [(.MAC0, 5), (.FLAG, 0xFFFFFFFF), (.VXY1, 7)])).map
      (fun t => [readReg .MAC0 t, readReg .FLAG t, readReg .VXY1 t]) = some [0, 0, 0] := by decide

theorem test_illegal_word_refused :
    refusalOf (State.reset.withPending [.command 0x4A000000]) = some (.illegalCommand 0x00) := by decide

theorem test_latches_after_rtps :
    (after (.command 0x4A080401) State.reset).map (fun t => (t.sf, t.lm)) = some (true, true) := by decide +kernel

theorem test_idle_step_holds : after .reset State.reset = some State.reset := by decide

theorem test_withFetchWord_runs_next :
    (match step (State.reset.withFetchWord 32 0x4A000006) with
      | .next t => some t.replies
      | .fault _ => none
      | .refused _ => none) = some [.illegal false] := by decide +kernel

/-- R75, R76: each line of a listing is one transaction, issued in order. -/
theorem test_issueListing :
    (issueListing [.reset, .wr .IR1 1, .command (.sqr false false), .rd .MAC1, .clrflag] State.reset).pending =
      [.reset, .regWrite 9 1, .command 0x4A000028, .regRead 25, .clrFlag] := by decide +kernel

/-! ### The divider (95_test_vectors 2.4) -/

theorem test_recipUNR :
    recipUNR 0x8000 = 0x20000 ∧ recipUNR 0x8001 = 0x1FFFC ∧ recipUNR 0xAAAA = 0x18002 ∧ recipUNR 0xFFFF = 0x10000 := by
  decide

theorem test_divideUNR :
    divideUNR 500 251 = (0x1FDF5, noFlags) ∧ divideUNR 0xffff 0xffff = (0xFFFF, noFlags) ∧
      divideUNR 500 250 = (0x1ffff, FlagBit.divOvf.mask) := by decide

theorem test_divide : divide 500 251 = (0x1FDF6, noFlags) ∧ divide 0xffff 0xffff = (0x10000, noFlags) := by decide

/-! ### Geometry commands (95_test_vectors 2.5) -/

/-- State P. -/
def stateP : List (RegName × Word) :=
  [(.RT11RT12, 0x1000), (.RT22RT23, 0x1000), (.RT33, 0x1000), (.H, 500), (.OFX, 0x00A00000), (.OFY, 0x00780000),
    (.DQA, 0xFFFFFF00), (.DQB, 0x01000000)]

/-- Row G1. -/
theorem test_rtps_projects :
    wordsAfter 0x4A080001 [.MAC3, .SZ3, .SXY2, .MAC0, .IR0, .FLAG]
        (setup (stateP ++ [(.TRZ, 800), (.VXY0, 0xFFCE0064), (.VZ0, 200)])) =
      some [0x3E8, 0x3E8, 0x005F00D2, 0x00800000, 0x800, 0] := by decide +kernel

/-- Row G7: `sf` = 0, `lm` = 1, negative Z: `IR[3]` clamps silently. -/
theorem test_rtps_sf0_quirk :
    wordsAfter 0x4A000401 [.MAC3, .IR1, .IR3, .SXY2, .FLAG]
        (setup (stateP ++ [(.VXY0, 0xFFCE0064), (.VZ0, 0xFED4)])) =
      some [0xFFED4000, 0x7FFF, 0, 0x007803FF, 0x81875000] := by decide +kernel

/-- Program P1 in short: three vertices, each projected as `rtps` projects it (row G1 and its first two coordinates
changed), so that the screen Z FIFO takes three entries after the old `SZ[3]`. -/
theorem test_rtpt_order :
    wordsAfter 0x4A080030 [.SZ0, .SZ1, .SZ2, .SZ3]
        (setup (stateP ++ [(.TRZ, 800), (.VZ0, 200), (.VZ1, 201), (.VZ2, 202), (.SZ3, 7)])) =
      some [7, 1000, 1001, 1002] := by decide +kernel

theorem test_nclip_positive_winding :
    wordsAfter 0x4A000006 [.MAC0, .FLAG] (setup [(.SXY1, 0x0000000A), (.SXY2, 0x000A0000)]) = some [0x64, 0] := by
  decide +kernel

theorem test_nclip_overflow :
    wordsAfter 0x4A000006 [.MAC0, .FLAG]
        (setup [(.SXY0, 0x80008000), (.SXY1, 0x7FFF8000), (.SXY2, 0x80007FFF)]) = some [0x0001FFFF, 0x80008000] := by
  decide +kernel

theorem test_avsz3_skips_the_oldest :
    wordsAfter 0x4A00002D [.MAC0, .OTZ, .FLAG]
        (setup [(.SZ0, 100), (.SZ1, 200), (.SZ2, 300), (.SZ3, 400), (.ZSF3, 0x555)]) =
      some [0x0012BED4, 0x12B, 0] := by decide +kernel

theorem test_avsz4_saturates_high :
    wordsAfter 0x4A00002E [.MAC0, .OTZ, .FLAG]
        (setup [(.SZ0, 0xffff), (.SZ1, 0xffff), (.SZ2, 0xffff), (.SZ3, 0xffff), (.ZSF4, 0x7fff)]) =
      some [0xFFFA0004, 0xffff, 0x80050000] := by decide +kernel

/-! ### Lighting commands (95_test_vectors 2.6) -/

/-- State L. -/
def stateL : List (RegName × Word) :=
  [(.L13L21, 0x1000), (.LR1LR2, 0x800), (.LR3LG1, 0x04000000), (.LB1LB2, 0x200), (.RBK, 0x100), (.GBK, 0x100),
    (.BBK, 0x100), (.VZ0, 0x1000), (.RGBC, 0x34FF4080), (.RFC, 0xff0), (.GFC, 0xff0), (.BFC, 0xff0), (.IR0, 0x800)]

/-- State L, triple rows. -/
def stateLTriple : List (RegName × Word) := stateL ++ [(.VZ1, 0x800), (.VZ2, 0xF000)]

theorem test_ncs :
    wordsAfter 0x4A08041E [.MAC1, .MAC2, .MAC3, .RGB2, .FLAG] (setup stateL) =
      some [0x900, 0x500, 0x300, 0x34305090, 0] := by decide +kernel

/-- Row 5: the colour reads the stored, wrapped accumulators. -/
theorem test_ncs_colour_reads_stored_accumulators :
    wordsAfter 0x4A08001E [.MAC1, .MAC2, .RGB2, .FLAG]
        (setup (stateL ++ [(.RBK, 0x7FFFFFFF), (.GBK, 0x80000000), (.BBK, 0), (.LR1LR2, 0x7fff),
          (.LR3LG1, 0x80000000)])) =
      some [0x80007FFE, 0x7FFF8000, 0x3420FF00, 0xC5B00000] := by decide +kernel

theorem test_nct :
    wordsAfter 0x4A080420 [.MAC1, .RGB0, .RGB1, .RGB2, .FLAG] (setup stateLTriple) =
      some [0x100, 0x34305090, 0x34203050, 0x34101010, 0x81000000] := by decide +kernel

theorem test_nccs :
    wordsAfter 0x4A08041B [.MAC1, .MAC2, .MAC3, .RGB2, .FLAG] (setup stateL) =
      some [0x480, 0x140, 0x2FD, 0x342F1448, 0] := by decide +kernel

theorem test_ncct :
    wordsAfter 0x4A08043F [.MAC1, .RGB0, .RGB1, .RGB2, .FLAG] (setup stateLTriple) =
      some [0x80, 0x342F1448, 0x341F0C28, 0x340F0408, 0x81000000] := by decide +kernel

theorem test_ncds :
    wordsAfter 0x4A080413 [.MAC1, .MAC2, .MAC3, .RGB2, .FLAG] (setup stateL) =
      some [0xA38, 0x898, 0x976, 0x349789A3, 0] := by decide +kernel

theorem test_ncdt :
    wordsAfter 0x4A080016 [.MAC1, .RGB0, .RGB1, .RGB2, .FLAG] (setup stateLTriple) =
      some [0x638, 0x349789A3, 0x348F8593, 0x34777963, 0] := by decide +kernel

theorem test_cc :
    wordsAfter 0x4A08041C [.MAC1, .MAC2, .MAC3, .RGB2, .FLAG]
        (setup (stateL ++ [(.IR1, 0x100), (.IR2, 0x200), (.IR3, 0x300)])) =
      some [0xC0, 0x50, 0x11E, 0x3411050C, 0] := by decide +kernel

theorem test_cdp :
    wordsAfter 0x4A080414 [.MAC1, .MAC2, .MAC3, .RGB2, .FLAG]
        (setup (stateL ++ [(.IR1, 0x100), (.IR2, 0x200), (.IR3, 0x300)])) =
      some [0x858, 0x820, 0x887, 0x34888285, 0] := by decide +kernel

/-! ### Depth-cue commands (95_test_vectors 2.7) -/

/-- State D. -/
def stateD : List (RegName × Word) := [(.RGBC, 0x34FF4080), (.RFC, 0xff0), (.BFC, 0x800), (.IR0, 0x800)]

theorem test_dpcs :
    wordsAfter 0x4A080410 [.MAC1, .MAC2, .MAC3, .RGB2, .FLAG] (setup stateD) =
      some [0xBF8, 0x200, 0xBF8, 0x34BF20BF, 0] := by decide +kernel

theorem test_dpct_code_from_rgbc :
    wordsAfter 0x4A08002A [.MAC1, .RGB0, .RGB1, .RGB2, .FLAG]
        (setup (stateD ++ [(.RGB0, 0xAA302010), (.RGB1, 0xBB605040), (.RGB2, 0xCC908070)])) =
      some [0xB78, 0x34581087, 0x3470289F, 0x348840B7, 0] := by decide +kernel

theorem test_dcpl :
    wordsAfter 0x4A080029 [.MAC1, .MAC2, .MAC3, .RGB2, .FLAG]
        (setup (stateD ++ [(.IR1, 0x900), (.IR2, 0x500), (.IR3, 0x300)])) =
      some [0xA38, 0xA0, 0x57E, 0x34570AA3, 0] := by decide +kernel

theorem test_intpl :
    wordsAfter 0x4A080411 [.MAC1, .MAC2, .MAC3, .RGB2, .FLAG]
        (setup (stateD ++ [(.IR1, 0x100), (.IR2, 0x200), (.IR3, 0xFD00)])) =
      some [0x878, 0x100, 0x280, 0x34281087, 0] := by decide +kernel

/-! ### General commands (95_test_vectors 2.8) -/

/-- State M, the registers that the two rows below read. -/
def stateM : List (RegName × Word) :=
  [(.RT11RT12, 0x08001000), (.RT22RT23, 0x04001000), (.RT31RT32, 0xF000), (.RT33, 0x1000), (.TRX, 10), (.TRY, 20),
    (.TRZ, 30), (.RFC, 0x1000), (.GFC, 0x2000), (.BFC, 0x3000), (.VXY0, 0x00C80064), (.VZ0, 300), (.IR0, 0x800),
    (.RGBC, 0x34FF4080)]

theorem test_mvmva_far_colour :
    wordsAfter 0x4A084012 [.MAC1, .MAC2, .MAC3, .IR1, .FLAG] (setup stateM) =
      some [0x64, 0x113, 0x12C, 100, 0] := by decide +kernel

theorem test_mvmva_fourth_matrix :
    wordsAfter 0x4A0E6012 [.MAC1, .MAC2, .MAC3] (setup stateM) = some [0xC8, 0, 0x258] ∧
      wordsAfter 0x4A0E6012 [.MAC1, .MAC2, .MAC3] { setup stateM with mx3Const60 := true } =
        some [0x98, 0, 0x258] := by decide +kernel

/-- State G. -/
def stateG : List (RegName × Word) :=
  [(.IR0, 0x800), (.IR1, 0x100), (.IR2, 0x200), (.IR3, 0xFD00), (.MAC1, 0x10), (.MAC2, 0x20), (.MAC3, 0x30),
    (.RGBC, 0x34000000), (.RT11RT12, 0x1000), (.RT22RT23, 0x2000), (.RT33, 0x3000)]

theorem test_gpf :
    wordsAfter 0x4A08043D [.MAC1, .MAC2, .MAC3, .IR3, .RGB2, .FLAG] (setup stateG) =
      some [0x80, 0x100, 0xFFFFFE80, 0, 0x34001008, 0x00480000] := by decide +kernel

theorem test_gpl_sf1 :
    wordsAfter 0x4A08003E [.MAC1, .MAC2, .MAC3, .RGB2, .FLAG] (setup stateG) =
      some [0x90, 0x120, 0xFFFFFEB0, 0x34001209, 0x00080000] := by decide +kernel

theorem test_gpl_sf0 :
    wordsAfter 0x4A00003E [.MAC1, .MAC2, .MAC3, .RGB2, .FLAG] (setup stateG) =
      some [0x00080010, 0x00100020, 0xFFE80030, 0x3400FFFF, 0x81F80000] := by decide +kernel

theorem test_sqr :
    wordsAfter 0x4A080028 [.MAC1, .MAC2, .MAC3, .RGB2, .FLAG] (setup stateG) =
      some [0x10, 0x40, 0x90, 0, 0] := by decide +kernel

theorem test_op :
    wordsAfter 0x4A08000C [.MAC1, .MAC2, .MAC3, .RGB2, .FLAG] (setup stateG) =
      some [0xFFFFF400, 0x600, 0, 0, 0] := by decide +kernel

theorem test_op_diagonal_first :
    wordsAfter 0x4A08000C [.MAC1, .MAC2, .MAC3]
        (setup [(.IR1, 1), (.RT22RT23, 0x1000)]) = some [0, 0, 0xFFFFFFFF] := by decide +kernel

/-! ### Witnesses: a concrete state and operands that meet the hypotheses of each statement that has some, for each of
its clauses at a boundary -/

theorem witness_DecodeInvertsEncodeOnDecodedBits : (Instr.mvmva true true .buggy .ir .zero).wellFormed = true := by
  decide

theorem witness_UnassignedFunctionIsRefusedWithoutEffect :
    (0x4A000000#32).extractLsb' 0 6 ∉ assignedFunctions ∧ (0xFFFFFFFC#32).extractLsb' 0 6 ∉ assignedFunctions := by
  decide

theorem witness_IgnoredBitsHaveNoEffect :
    (0x4A0E6412#32 &&& 0x000FE43F = 0xFFFE7FD2#32 &&& 0x000FE43F) ∧
      (0x4A080001#32 &&& 0x0008043F = 0xFFFFFBC1#32 &&& 0x0008043F ∧ (0x4A080001#32).extractLsb' 0 6 ≠ 0x12#6) := by
  decide

theorem witness_StepRunsTheDecodedCommand :
    decode 0x4A080001 = .ok (.rtps true false) ∧ (Instr.rtps true false).wellFormed = true ∧
      ∃ t, exec (.rtps true false) (State.reset.withPending []) = .next t :=
  ⟨by decide, by decide, _, rfl⟩

theorem witness_StepAppliesTheOldestTransaction :
    ∀ q ∈ [[], [.regRead 63], [.command 0x4A000006], [.regWrite 0 1], [.clrFlag], [Transaction.reset]],
      (State.reset.withPending q).pending = q ∧ ∃ t, step (State.reset.withPending q) = .next t := by
  simp only [List.mem_cons, List.not_mem_nil, or_false, forall_eq_or_imp, forall_eq]
  exact ⟨⟨rfl, _, rfl⟩, ⟨rfl, _, rfl⟩, ⟨rfl, _, rfl⟩, ⟨rfl, _, rfl⟩, ⟨rfl, _, rfl⟩, ⟨rfl, _, rfl⟩⟩

theorem witness_RegWriteChangesNoOtherWord : RegName.VXY0 ≠ RegName.FLAG := by decide

theorem witness_RegisterWordsDetermineTheRegisterFile :
    ((0, Contents.pair 0 0) ∈ portMap State.reset ∧ (62, Contents.signed16 0) ∈ portMap State.reset) ∧
    (∀ r, readReg r State.reset = readReg r (State.reset.withLatches true true)) ∧
      State.reset ≠ State.reset.withLatches true true :=
  ⟨by decide, fun r => by cases r <;> rfl, by decide⟩

theorem witness_ReservedIndexIsRefusedWithoutEffect :
    ((15#6).toNat ∈ [15, 23, 28, 29, 30, 31] ∧ (31#6).toNat ∈ [15, 23, 28, 29, 30, 31]) ∧
      ((0#6).toNat ∉ [15, 23, 28, 29, 30, 31] ∧ (27#6).toNat ∉ [15, 23, 28, 29, 30, 31] ∧
        (32#6).toNat ∉ [15, 23, 28, 29, 30, 31] ∧ (63#6).toNat ∉ [15, 23, 28, 29, 30, 31]) := by decide

theorem witness_TransactionsCompleteOrAreRefused :
    (Transaction.regRead 63).wellFormed = true ∧ (Transaction.command 0x4A00003F).wellFormed = true ∧
      (Transaction.regRead 31).wellFormed = false ∧ (Transaction.command 0x4A00003C).wellFormed = false := by decide

theorem witness_ClrFlagClearsEveryStoredBit :
    ∀ tx ∈ [Transaction.reset, .regRead 63, .regWrite 62 0, .clrFlag],
      (∃ t, applyTransaction tx { State.reset with flag := 0 } = .next t) ∧ (∀ w, tx ≠ .command w) ∧
        ∀ w, tx ≠ .regWrite 63 w := by
  simp only [List.mem_cons, List.not_mem_nil, or_false, forall_eq_or_imp, forall_eq]
  exact ⟨⟨⟨_, rfl⟩, by simp, by simp⟩, ⟨⟨_, rfl⟩, by simp, by simp⟩, ⟨⟨_, rfl⟩, by simp, by simp⟩,
    ⟨_, rfl⟩, by simp, by simp⟩

theorem witness_FlagBitsAreSticky :
    ∀ tx ∈ [Transaction.reset, .clrFlag, .regWrite 63 0], ∃ t,
      applyTransaction tx (State.reset.withFlag FlagBit.ir0Sat.mask) = .next t ∧
        (State.reset.withFlag FlagBit.ir0Sat.mask).flagged .ir0Sat = true ∧ t.flagged .ir0Sat = false := by
  simp only [List.mem_cons, List.not_mem_nil, or_false, forall_eq_or_imp, forall_eq]
  exact ⟨⟨_, rfl, by decide, by decide⟩, ⟨_, rfl, by decide, by decide⟩, ⟨_, rfl, by decide, by decide⟩⟩

theorem witness_OnlyTheFourthMatrixReadsTheParameter :
    usesBuggyMatrix (.mvmva false false .lcm .ir .fc) = false ∧ usesBuggyMatrix (.rtpt true true) = false := by decide

theorem witness_LowerLimitKeepsIrNonNegative :
    writesIr (.rtps true true) = true ∧ lmOf (.rtps true true) = true ∧ writesIr (.op false true) = true ∧
      lmOf (.op false true) = true := by decide

theorem witness_EveryStepKeepsTheCommandRanges :
    CommandRanges (State.reset.withPending [.regWrite 7 1]) ∧
      NoDirectStore (State.reset.withPending [.regWrite 7 1]) ∧
      ∃ t, step (State.reset.withPending [.regWrite 7 1]) = .next t := by
  refine ⟨by unfold CommandRanges ScreenInRange; decide, ?_, _, rfl⟩
  intro idx w h
  simp only [State.withPending, List.mem_cons, Transaction.regWrite.injEq, List.not_mem_nil, or_false] at h
  rw [h.1]
  decide

theorem witness_ReciprocalTableMatchesItsGenerator : 256 ∈ List.range 257 := by decide

theorem witness_Clz16CountsTheLeadingZeros : 14 < clz16 1 ∧ (1#16 ≠ 0 ∧ 0x8000#16 ≠ 0) := by decide

theorem witness_ReciprocalStaysInRange : 0x8000 ≤ 0x8000 ∧ 0x8000 ≤ 0xffff ∧ 0x8000 ≤ 0xffff ∧ 0xffff ≤ 0xffff := by
  decide

theorem witness_DivideCorners :
    2 * (0x7fff#16).toNat ≤ (0xfffe#16).toNat ∧ 2 * (0#16).toNat ≤ (0#16).toNat ∧ (1#16) ≠ 0 ∧ (0xffff#16) ≠ 0 := by
  decide

theorem witness_DivideIsExactAtPowersOfTwo :
    (0 < 16 ∧ (1#16).toNat < 2 * 2 ^ 0) ∧ (15 < 16 ∧ (0xffff#16).toNat < 2 * 2 ^ 15) := by decide

theorem witness_DivideIsMonotoneInTheDividend :
    (1#16).toNat ≤ (2#16).toNat ∧ (divideUNR 1 0).2 = FlagBit.divOvf.mask := by decide

theorem witness_SecondOverflowExitIsReachable :
    (0xE383#16).toNat < 2 * (0x71C2#16).toNat ∧ (divideUNR 0xE383 0x71C2).2 ≠ noFlags := by decide

theorem witness_ExactDivideRoundsToNearest :
    (3#16).toNat < 2 * (2#16).toNat ∧ (divide 3 2).2 = noFlags := by decide

theorem witness_NclipOfProjectedPointsIsExact :
    CommandRanges (setup [(.SXY0, 0xFC00FC00), (.SXY1, 0xFC0003FF), (.SXY2, 0x03FFFC00), (.IR0, 0x1000)]) := by
  unfold CommandRanges ScreenInRange; decide

theorem witness_RtpsScreenZFollowsTheAccumulator :
    (setup (stateP ++ [(.TRZ, 800)])).flag = 0 ∧
      (∃ t, exec (.rtps true false) (setup (stateP ++ [(.TRZ, 800)])) = .next t ∧ t.flagged .mac3Pos = false ∧
        t.flagged .mac3Neg = false) ∧
      -2147483648 ≤ (transformSums (setup (stateP ++ [(.TRZ, 800)])) .v0).z ∧
      (transformSums (setup (stateP ++ [(.TRZ, 800)])) .v0).z ≤ 2147483647 :=
  ⟨by decide, ⟨_, rfl, by decide +kernel, by decide +kernel⟩, by decide +kernel, by decide +kernel⟩

theorem witness_RtpsIgnoresOldResults :
    let s := setup stateP
    let s' := setup (stateP ++ [(.IR1, 5), (.MAC0, 9), (.SXY1, 3), (.OTZ, 1)])
    s.v.v0 = s'.v.v0 ∧ s.ctrl = s'.ctrl ∧ s ≠ s' := by decide

theorem witness_TripleLightingIsThreeSingles :
    (Instr.ncds true true, Instr.ncdt true true) ∈
      [(Instr.ncs true true, Instr.nct true true), (.nccs true true, .ncct true true),
        (.ncds true true, .ncdt true true)] := by decide

theorem witness_NcdsWithZeroFactorMatchesNccs : (setup (stateL ++ [(.IR0, 0)])).ir0 = 0 := by decide

theorem witness_DepthCueBlendsItsSource :
    (Instr.intpl true true, (⟨0, 0, 0⟩ : Vec3 Int)) ∈
      [(Instr.dpcs true true, colourTimes65536 State.reset.rgbc),
        (.dcpl true true, productSums State.reset (ints State.reset.ir)), (.intpl true true, ⟨0, 0, 0⟩)] := by
  decide +kernel

theorem witness_ZeroFactorReproducesTheSource : (setup (stateD ++ [(.IR0, 0)])).ir0 = 0 := by decide

theorem witness_MvmvaMultipliesAndTranslates :
    TranslationSel.tr ≠ .fc ∧ TranslationSel.bk ≠ .fc ∧ TranslationSel.zero ≠ .fc := by decide

theorem witness_GpfAndGplScaleTheIrTriple :
    (Instr.gpl true true, (⟨0, 0, 0⟩ : Vec3 Int)) ∈
      [(Instr.gpf true true, (⟨0, 0, 0⟩ : Vec3 Int)), (.gpl true true, ⟨0, 0, 0⟩)] := by decide

theorem witness_SqrAndOpMultiplyTheIrTriple :
    (Instr.op true true, (⟨0, 0, 0⟩ : Vec3 Int)) ∈
      [(Instr.sqr true true, (⟨0, 0, 0⟩ : Vec3 Int)), (.op true true, ⟨0, 0, 0⟩)] := by decide

end Sys2Proof.Tests
end

/-! ### 00_scope: what a command's body leaves alone -/

namespace Sys2Proof.Machine

open Sys2Proof.Safety

/-- The part of the state that no command's body writes: the input vectors, the input colour, the control registers,
the latches (30_encoding R71: dispatch has loaded them before the body runs), and the model's own three fields. -/
structure Kept where
  v : Vertices
  rgbc : Color
  ctrl : Control
  sf : Bool
  lm : Bool
  mx3Const60 : Bool
  pending : List Transaction
  replies : List Reply

/-- The kept part of a state. -/
def State.kept (s : State) : Kept where
  v := s.v
  rgbc := s.rgbc
  ctrl := s.ctrl
  sf := s.sf
  lm := s.lm
  mx3Const60 := s.mx3Const60
  pending := s.pending
  replies := s.replies

section KeptByUpdates

variable (s : State)

@[simp] theorem State.withFlag_kept (f : FlagSet) : (s.withFlag f).kept = s.kept := rfl
@[simp] theorem State.withMac0_kept (w : BitVec 32) : (s.withMac0 w).kept = s.kept := rfl
@[simp] theorem State.withMac_kept (w : Vec3 (BitVec 32)) : (s.withMac w).kept = s.kept := rfl
@[simp] theorem State.withIr0_kept (w : BitVec 16) : (s.withIr0 w).kept = s.kept := rfl
@[simp] theorem State.withIr_kept (w : Vec3 (BitVec 16)) : (s.withIr w).kept = s.kept := rfl
@[simp] theorem State.withOtz_kept (w : BitVec 16) : (s.withOtz w).kept = s.kept := rfl
@[simp] theorem State.withSxy_kept (q : Fifo3 ScreenXY) : (s.withSxy q).kept = s.kept := rfl
@[simp] theorem State.withSz_kept (q : Fifo4 (BitVec 16)) : (s.withSz q).kept = s.kept := rfl
@[simp] theorem State.withRgb_kept (q : Fifo3 Color) : (s.withRgb q).kept = s.kept := rfl

end KeptByUpdates

@[simp] theorem setTriple_kept (c : Vec3 Int) (lm : Bool) (s : State) : (setTriple c lm s).kept = s.kept := by
  simp [setTriple_eq]

@[simp] theorem State.colourResult_kept (s : State) (c : Vec3 Int) (lm : Bool) (g : FlagSet) :
    (s.colourResult c lm g).kept = s.kept := by
  simp [State.colourResult]

@[simp] theorem nclipBody_kept (s : State) : (nclipBody s).kept = s.kept := by
  simp [nclipBody, setMac0_eq]

@[simp] theorem rtpsBody_kept (n : Vertex) (lm : Bool) (s : State) : (rtpsBody n lm s).kept = s.kept := by
  simp [rtpsBody_eq, State.projected, rtpsTransform_eq]

@[simp] theorem averageZ_kept (v : Int) (s : State) : (averageZ v s).kept = s.kept := by
  simp [averageZ_eq]

@[simp] theorem avsz3Body_kept (s : State) : (avsz3Body s).kept = s.kept := averageZ_kept ..

@[simp] theorem avsz4Body_kept (s : State) : (avsz4Body s).kept = s.kept := averageZ_kept ..

@[simp] theorem ncsBody_kept (n : Vertex) (lm : Bool) (s : State) : (ncsBody n lm s).kept = s.kept := by
  simp [ncsBody_eq]

@[simp] theorem nccsBody_kept (n : Vertex) (lm : Bool) (s : State) : (nccsBody n lm s).kept = s.kept := by
  simp [nccsBody_eq]

@[simp] theorem ncdsBody_kept (n : Vertex) (lm : Bool) (s : State) : (ncdsBody n lm s).kept = s.kept := by
  simp [ncdsBody_eq]

@[simp] theorem ccBody_kept (lm : Bool) (s : State) : (ccBody lm s).kept = s.kept := by
  simp [ccBody_eq]

@[simp] theorem cdpBody_kept (lm : Bool) (s : State) : (cdpBody lm s).kept = s.kept := by
  simp [cdpBody_eq]

@[simp] theorem dpcsBody_kept (useFifo lm : Bool) (s : State) : (dpcsBody useFifo lm s).kept = s.kept := by
  simp [dpcsBody_eq, pushColor_interpolate]

@[simp] theorem dcplBody_kept (lm : Bool) (s : State) : (dcplBody lm s).kept = s.kept := by
  simp [dcplBody, pushColor_interpolate]

@[simp] theorem intplBody_kept (lm : Bool) (s : State) : (intplBody lm s).kept = s.kept := by
  simp [intplBody, pushColor_interpolate]

@[simp] theorem gpfBody_kept (lm : Bool) (s : State) : (gpfBody lm s).kept = s.kept := by
  simp [gpfBody, pushColor_setTriple]

@[simp] theorem gplBody_kept (lm : Bool) (s : State) : (gplBody lm s).kept = s.kept := by
  simp [gplBody, pushColor_setTriple]

@[simp] theorem sqrBody_kept (lm : Bool) (s : State) : (sqrBody lm s).kept = s.kept := setTriple_kept ..

@[simp] theorem opBody_kept (lm : Bool) (s : State) : (opBody lm s).kept = s.kept := setTriple_kept ..

@[simp] theorem mvmvaBody_kept (mx : MatrixSel) (vx : VectorSel) (tx : TranslationSel) (lm : Bool) (s : State) :
    (mvmvaBody mx vx tx lm s).kept = s.kept := by
  by_cases h : tx = .fc
  · simp [h, mvmvaBody_fc, mvmvaFarColour_eq]
  · simp [mvmvaBody_eq _ _ _ h]

/-! ### A command is its body after the latches are loaded -/

/-- What a command does once the latches hold its `sf` and `lm` (30_encoding R71); `exec_eq` ties it to `exec`. -/
def commandBody : Instr → State → State
  | .rtps _ lm, s => rtpsBody .v0 lm s
  | .nclip _ _, s => nclipBody s
  | .op _ lm, s => opBody lm s
  | .dpcs _ lm, s => dpcsBody false lm s
  | .intpl _ lm, s => intplBody lm s
  | .mvmva _ lm mx vx tx, s => mvmvaBody mx vx tx lm s
  | .ncds _ lm, s => ncdsBody .v0 lm s
  | .cdp _ lm, s => cdpBody lm s
  | .ncdt _ lm, s => ncdsBody .v2 lm (ncdsBody .v1 lm (ncdsBody .v0 lm s))
  | .nccs _ lm, s => nccsBody .v0 lm s
  | .cc _ lm, s => ccBody lm s
  | .ncs _ lm, s => ncsBody .v0 lm s
  | .nct _ lm, s => ncsBody .v2 lm (ncsBody .v1 lm (ncsBody .v0 lm s))
  | .sqr _ lm, s => sqrBody lm s
  | .dcpl _ lm, s => dcplBody lm s
  | .dpct _ lm, s => dpcsBody true lm (dpcsBody true lm (dpcsBody true lm s))
  | .avsz3 _ _, s => avsz3Body s
  | .avsz4 _ _, s => avsz4Body s
  | .rtpt _ lm, s => rtpsBody .v2 lm (rtpsBody .v1 lm (rtpsBody .v0 lm s))
  | .gpf _ lm, s => gpfBody lm s
  | .gpl _ lm, s => gplBody lm s
  | .ncct _ lm, s => nccsBody .v2 lm (nccsBody .v1 lm (nccsBody .v0 lm s))

/-- Every command answers a next state: its body run on the state with its latches loaded. -/
theorem exec_eq (i : Instr) (s : State) :
    exec i s = .next (commandBody i (s.withLatches (sfOf i) (lmOf i))) := by
  cases i <;> rfl

/-- No command's body writes the kept part of the state. -/
theorem commandBody_kept (i : Instr) (s : State) : (commandBody i s).kept = s.kept := by
  cases i <;> simp [commandBody]

/-- What a command that answered a next state left in the latches and in the model's own fields. -/
theorem exec_next_frame {i : Instr} {s t : State} (h : exec i s = .next t) :
    t.sf = sfOf i ∧ t.lm = lmOf i ∧ t.pending = s.pending ∧ t.replies = s.replies ∧
      t.mx3Const60 = s.mx3Const60 := by
  rw [exec_eq] at h
  injection h with h
  have hk : t.kept = (s.withLatches (sfOf i) (lmOf i)).kept := h ▸ commandBody_kept i _
  exact ⟨congrArg Kept.sf hk, congrArg Kept.lm hk, congrArg Kept.pending hk, congrArg Kept.replies hk,
    congrArg Kept.mx3Const60 hk⟩

/-- Settles O18: `exec_eq` gives the next state, `exec_next_frame` its latches and the model's fields. -/
theorem everyCommandCompletes : Obligations.EveryCommandCompletes :=
  fun i s => ⟨_, exec_eq i s, exec_next_frame (exec_eq i s)⟩

/-! ### What does not read the open parameter -/

/-- `s` with the open parameter `MX3_CONST60` replaced. -/
def State.withParameter (s : State) (b : Bool) : State := { s with mx3Const60 := b }

section ParameterUnread

variable (s : State) (b : Bool)

@[simp] theorem State.withParameter_v : (s.withParameter b).v = s.v := rfl
@[simp] theorem State.withParameter_rgbc : (s.withParameter b).rgbc = s.rgbc := rfl
@[simp] theorem State.withParameter_ir0 : (s.withParameter b).ir0 = s.ir0 := rfl
@[simp] theorem State.withParameter_ir : (s.withParameter b).ir = s.ir := rfl
@[simp] theorem State.withParameter_sxy : (s.withParameter b).sxy = s.sxy := rfl
@[simp] theorem State.withParameter_sz : (s.withParameter b).sz = s.sz := rfl
@[simp] theorem State.withParameter_rgb : (s.withParameter b).rgb = s.rgb := rfl
@[simp] theorem State.withParameter_mac : (s.withParameter b).mac = s.mac := rfl
@[simp] theorem State.withParameter_ctrl : (s.withParameter b).ctrl = s.ctrl := rfl
@[simp] theorem State.withParameter_sf : (s.withParameter b).sf = s.sf := rfl

@[simp] theorem State.withParameter_withLatches (sf lm : Bool) :
    (s.withParameter b).withLatches sf lm = (s.withLatches sf lm).withParameter b := rfl

@[simp] theorem raise_withParameter (g : FlagSet) :
    raise g (s.withParameter b) = (raise g s).withParameter b := rfl

@[simp] theorem setMac0_withParameter (v : Int) :
    setMac0 v (s.withParameter b) = (setMac0 v s).withParameter b := rfl

@[simp] theorem setMac_withParameter (i : Lane) (v : Int) :
    setMac i v (s.withParameter b) = (setMac i v s).withParameter b := rfl

@[simp] theorem setMacAndIr0_withParameter (v : Int) :
    setMacAndIr0 v (s.withParameter b) = (setMacAndIr0 v s).withParameter b := rfl

@[simp] theorem setMacAndIr_withParameter (i : Lane) (v : Int) (lm : Bool) :
    setMacAndIr i v lm (s.withParameter b) = (setMacAndIr i v lm s).withParameter b := rfl

@[simp] theorem pushScreenXY_withParameter (x y : Int) :
    pushScreenXY x y (s.withParameter b) = (pushScreenXY x y s).withParameter b := rfl

@[simp] theorem pushScreenZ_withParameter (z : Int) :
    pushScreenZ z (s.withParameter b) = (pushScreenZ z s).withParameter b := rfl

@[simp] theorem averageZ_withParameter (v : Int) :
    averageZ v (s.withParameter b) = (averageZ v s).withParameter b := rfl

@[simp] theorem pushColor_withParameter : pushColor (s.withParameter b) = (pushColor s).withParameter b := rfl

@[simp] theorem setTriple_withParameter (c : Vec3 Int) (lm : Bool) :
    setTriple c lm (s.withParameter b) = (setTriple c lm s).withParameter b := by
  simp [setTriple]

@[simp] theorem interpolate_withParameter (c : Vec3 Int) (lm : Bool) :
    interpolate c lm (s.withParameter b) = (interpolate c lm s).withParameter b := by
  have hd : interpolateDifference c (s.withParameter b) = (interpolateDifference c s).withParameter b :=
    setTriple_withParameter ..
  have hb : ∀ t : State, interpolateBlend c lm (t.withParameter b) = (interpolateBlend c lm t).withParameter b :=
    fun _ => setTriple_withParameter ..
  rw [interpolate, hd, hb, interpolate]

@[simp] theorem lightVector_withParameter (n : Vertex) (lm : Bool) :
    lightVector n lm (s.withParameter b) = (lightVector n lm s).withParameter b := by
  have hsums : lightSums (s.withParameter b) n = lightSums s n := by cases n <;> rfl
  simp [lightVector_eq, hsums]

@[simp] theorem lightColour_withParameter (lm : Bool) :
    lightColour lm (s.withParameter b) = (lightColour lm s).withParameter b := by
  simp [lightColour_eq, colourSums]

@[simp] theorem modulate_withParameter (lm : Bool) :
    modulate lm (s.withParameter b) = (modulate lm s).withParameter b := by
  simp [modulate, litColour]

@[simp] theorem cueLit_withParameter (lm : Bool) :
    cueLit lm (s.withParameter b) = (cueLit lm s).withParameter b := by
  simp [cueLit, litColour]

@[simp] theorem rtpsIr3_withParameter (s3 : Int) (lm : Bool) :
    rtpsIr3 s3 lm (s.withParameter b) = (rtpsIr3 s3 lm s).withParameter b := by
  unfold rtpsIr3
  rw [State.withParameter_sf]
  split <;> rfl

@[simp] theorem rtpsTransform_withParameter (n : Vertex) (lm : Bool) :
    rtpsTransform n lm (s.withParameter b) = (rtpsTransform n lm s).withParameter b := by
  have hsum : rtpsSum n (s.withParameter b) = rtpsSum n s := by cases n <;> rfl
  simp [rtpsTransform, hsum]

@[simp] theorem rtpsScreen_withParameter (q : Int) :
    rtpsScreen q (s.withParameter b) = (rtpsScreen q s).withParameter b := by
  simp [rtpsScreen]

@[simp] theorem rtpsDepthCue_withParameter (q : Int) :
    rtpsDepthCue q (s.withParameter b) = (rtpsDepthCue q s).withParameter b := by
  simp [rtpsDepthCue]

@[simp] theorem rtpsProject_withParameter :
    rtpsProject (s.withParameter b) = (rtpsProject s).withParameter b := by
  simp [rtpsProject]

@[simp] theorem dpcsBody_withParameter (useFifo lm : Bool) :
    dpcsBody useFifo lm (s.withParameter b) = (dpcsBody useFifo lm s).withParameter b := by
  have hsrc : cuedColour useFifo (s.withParameter b) = cuedColour useFifo s := rfl
  simp [dpcsBody_eq, hsrc]

/-- The fourth matrix is the one that reads the parameter (00_scope R10, 45_general R150). -/
theorem namedMatrix_withParameter {mx : MatrixSel} (h : mx ≠ .buggy) :
    namedMatrix (s.withParameter b) mx = namedMatrix s mx := by
  cases mx with
  | rt => rfl
  | llm => rfl
  | lcm => rfl
  | buggy => exact absurd rfl h

theorem mvmvaBody_withParameter {mx : MatrixSel} (h : mx ≠ .buggy) (vx : VectorSel) (tx : TranslationSel)
    (lm : Bool) :
    mvmvaBody mx vx tx lm (s.withParameter b) = (mvmvaBody mx vx tx lm s).withParameter b := by
  have hv : namedVector (s.withParameter b) vx = namedVector s vx := by cases vx <;> rfl
  have ht : namedTranslation (s.withParameter b) tx = namedTranslation s tx := by cases tx <;> rfl
  have hm := namedMatrix_withParameter s b h
  by_cases hfc : tx = .fc
  · rw [hfc, mvmvaBody_fc, mvmvaBody_fc, hm, hv]
    simp [mvmvaFarColour, farColourFlagStep, farColourValueStep]
  · rw [mvmvaBody_eq _ _ _ hfc, mvmvaBody_eq _ _ _ hfc, hm, hv, ht, setTriple_withParameter]

/-- A command's body other than `mvmva` with `mx` = 3 does the same whatever the parameter is. -/
theorem commandBody_withParameter {i : Instr} (h : usesBuggyMatrix i = false) :
    commandBody i (s.withParameter b) = (commandBody i s).withParameter b := by
  cases i with
  | mvmva sf lm mx vx tx =>
    exact mvmvaBody_withParameter s b (by rintro rfl; cases h) vx tx lm
  | nclip => simp [commandBody, nclipBody]
  | avsz3 => simp [commandBody, avsz3Body, avsz3Sum]
  | avsz4 => simp [commandBody, avsz4Body, avsz4Sum]
  | op => simp [commandBody, opBody, rotationDiagonal]
  | sqr => simp [commandBody, sqrBody]
  | gpf => simp [commandBody, gpfBody]
  | gpl => simp [commandBody, gplBody]
  | rtps | rtpt => simp [commandBody, rtpsBody]
  | ncs | nct => simp [commandBody, ncsBody]
  | nccs | ncct => simp [commandBody, nccsBody]
  | ncds | ncdt => simp [commandBody, ncdsBody]
  | cc => simp [commandBody, ccBody]
  | cdp => simp [commandBody, cdpBody]
  | dpcs | dpct => simp [commandBody]
  | dcpl => simp [commandBody, dcplBody, litColour]
  | intpl => simp [commandBody, intplBody, irSource]

end ParameterUnread

/-- Settles O24: loading the latches and the body both leave the parameter unread. -/
theorem onlyTheFourthMatrixReadsTheParameter : Obligations.OnlyTheFourthMatrixReadsTheParameter := by
  intro i s b h
  refine ⟨_, exec_eq i s, ?_⟩
  change exec i (s.withParameter b) = .next ((commandBody i _).withParameter b)
  rw [exec_eq, State.withParameter_withLatches, commandBody_withParameter _ b h]

/-! ### Legal and refused transactions -/

/-- A decoded command's function number is the word's (30_encoding R67). -/
theorem decode_ok_fnField {w : Word} {i : Instr} (h : decode w = .ok i) : fnField w = fnOf i := by
  unfold decode at h
  split at h
  case h_23 => cases h
  all_goals
    next hfn =>
      injection h with h
      subst h
      exact BitVec.eq_of_toNat_eq hfn

theorem fnOf_mem_assignedFunctions (i : Instr) : fnOf i ∈ assignedFunctions := by
  cases i <;> simp [fnOf, assignedFunctions]

/-- The decoder rejects a word by its function number, and only an unassigned one (30_encoding R72). -/
theorem decode_error {w : Word} {e : DecodeError} (h : decode w = .error e) :
    e = .unassignedFunction (fnField w) ∧ fnField w ∉ assignedFunctions := by
  unfold decode at h
  split at h
  case h_23 =>
    injection h with h
    refine ⟨h.symm, ?_⟩
    simp_all [assignedFunctions, ← BitVec.toNat_inj]
  all_goals cases h

/-- The reserved indices are those that lead to no register word (20_memory R57). -/
theorem regOfIndex_eq_none_iff (idx : BitVec 6) : regOfIndex idx = none ↔ idx ∈ reservedIndices := by
  revert idx
  decide +kernel

/-- A word of an assigned function number runs its command to completion. -/
theorem execCommand_assigned {w : Word} (h : fnField w ∈ assignedFunctions) (s : State) :
    ∃ t, execCommand w s = .next t := by
  cases hd : decode w with
  | ok i => simp only [execCommand, hd, exec_eq, finishCommand, Host.Outcome.next.injEq, exists_eq']
  | error e => exact absurd h (decode_error hd).2

/-- A word of an unassigned function number is refused by that number. -/
theorem execCommand_unassigned {w : Word} (h : fnField w ∉ assignedFunctions) (s : State) :
    execCommand w s = .refused (.illegalCommand (fnField w)) := by
  cases hd : decode w with
  | ok i => exact absurd (decode_ok_fnField hd ▸ fnOf_mem_assignedFunctions i) h
  | error e => simp only [execCommand, hd, (decode_error hd).1]

/-- An index that is not reserved leads to a register word. -/
theorem regOfIndex_of_not_reserved {idx : BitVec 6} (h : idx ∉ reservedIndices) : ∃ r, regOfIndex idx = some r :=
  Option.ne_none_iff_exists'.1 (mt (regOfIndex_eq_none_iff idx).1 h)

/-- A legal transaction completes on every state (00_scope R7, 60_exceptions R165). -/
theorem applyTransaction_wellFormed {tx : Transaction} (h : tx.wellFormed = true) (s : State) :
    ∃ t, applyTransaction tx s = .next t := by
  cases tx with
  | reset => exact ⟨_, rfl⟩
  | clrFlag => exact ⟨_, rfl⟩
  | regRead idx =>
    obtain ⟨r, hr⟩ := regOfIndex_of_not_reserved (by simpa [Transaction.wellFormed] using h)
    simp only [applyTransaction, execRegRead, hr, Host.Outcome.next.injEq, exists_eq']
  | regWrite idx w =>
    obtain ⟨r, hr⟩ := regOfIndex_of_not_reserved (by simpa [Transaction.wellFormed] using h)
    simp only [applyTransaction, execRegWrite, hr, Host.Outcome.next.injEq, exists_eq']
  | command cw => exact execCommand_assigned (by simpa [Transaction.wellFormed, fnField] using h) s

/-- Settles O13: a legal transaction completes by `applyTransaction_wellFormed`; RESET and CLRFLAG are always legal, so
one that is not legal is a command of an unassigned function number or an access to a reserved index. -/
theorem transactionsCompleteOrAreRefused : Obligations.TransactionsCompleteOrAreRefused := by
  intro tx s
  refine ⟨fun h => applyTransaction_wellFormed h s, fun h => ?_⟩
  cases tx with
  | reset => cases h
  | clrFlag => cases h
  | regRead idx =>
    have hmem : idx ∈ reservedIndices := by simpa [Transaction.wellFormed] using h
    have hnone := (regOfIndex_eq_none_iff idx).2 hmem
    exact .inr ⟨idx, hmem, .inl rfl, by simp only [applyTransaction, execRegRead, hnone]⟩
  | regWrite idx w =>
    have hmem : idx ∈ reservedIndices := by simpa [Transaction.wellFormed] using h
    have hnone := (regOfIndex_eq_none_iff idx).2 hmem
    exact .inr ⟨idx, hmem, .inr ⟨w, rfl⟩, by simp only [applyTransaction, execRegWrite, hnone]⟩
  | command cw => exact .inl ⟨cw, rfl, execCommand_unassigned (by simpa [Transaction.wellFormed, fnField] using h) s⟩

/-! ### One step -/

@[simp] theorem writeReg_pending (r : RegName) (w : Word) (s : State) : (writeReg r w s).pending = s.pending := by
  cases r <;> rfl

@[simp] theorem writeReg_replies (r : RegName) (w : Word) (s : State) : (writeReg r w s).replies = s.replies := by
  cases r <;> rfl

@[simp] theorem writeReg_mx3Const60 (r : RegName) (w : Word) (s : State) :
    (writeReg r w s).mx3Const60 = s.mx3Const60 := by
  cases r <;> rfl

/-- A register word does not depend on what waits in the queue. -/
@[simp] theorem readReg_withPending (r : RegName) (q : List Transaction) (s : State) :
    readReg r (s.withPending q) = readReg r s := by
  cases r <;> rfl

theorem step_of_pending_cons {s : State} {tx : Transaction} {rest : List Transaction} (h : s.pending = tx :: rest) :
    step s = applyTransaction tx (s.withPending rest) := by
  simp only [step, h]

theorem step_of_pending_nil {s : State} (h : s.pending = []) : step s = .next s := by
  simp only [step, h]

/-- Settles O7: the two forms of `step`, and of what each kind of transaction did (`applyTransaction_next`) the part
that concerns the queue, the results and the parameter. -/
theorem stepAppliesTheOldestTransaction : Obligations.StepAppliesTheOldestTransaction := by
  intro s
  refine ⟨fun tx rest h => step_of_pending_cons h, step_of_pending_nil, fun t h => ?_⟩
  obtain ⟨hp, rfl⟩ | ⟨tx, rest, hp, happ⟩ := step_next h
  · simp [hp]
  · rw [hp]
    obtain ⟨rfl, rfl⟩ | ⟨idx, r, rfl, hr, rfl⟩ | ⟨idx, w, r, rfl, -, rfl⟩ | ⟨rfl, rfl⟩ | ⟨cw, i, u, rfl, -, hu, rfl⟩ :=
      applyTransaction_next happ
    · exact ⟨rfl, rfl, rfl⟩
    · exact ⟨rfl, rfl, r, indexOf_of_regOfIndex hr, by simp⟩
    · simp
    · exact ⟨rfl, rfl, rfl⟩
    · obtain ⟨-, -, hpending, hreplies, hparam⟩ := exec_next_frame hu
      simp [hpending, hreplies, hparam]

end Sys2Proof.Machine

namespace Sys2Proof.Machine

open Sys2Proof.Safety

/-! ### 10_state: which register words an update changes -/

/-- The words of the input vectors (10_state R12). -/
def vectorWords : List RegName := [.VXY0, .VZ0, .VXY1, .VZ1, .VXY2, .VZ2]

/-- The words of `IR[1..3]` (10_state R16). -/
def irWords : List RegName := [.IR1, .IR2, .IR3]

/-- The words of the screen XY FIFO (10_state R17). -/
def screenXYWords : List RegName := [.SXY0, .SXY1, .SXY2]

/-- The words of the screen Z FIFO (10_state R18). -/
def screenZWords : List RegName := [.SZ0, .SZ1, .SZ2, .SZ3]

/-- The words of the colour FIFO (10_state R19). -/
def colourWords : List RegName := [.RGB0, .RGB1, .RGB2]

/-- The words of `MAC[1..3]` (10_state R21). -/
def macWords : List RegName := [.MAC1, .MAC2, .MAC3]

/-- The words of the control registers other than FLAG (10_state R22 to R32). -/
def controlWords : List RegName :=
  [.RT11RT12, .RT13RT21, .RT22RT23, .RT31RT32, .RT33, .TRX, .TRY, .TRZ, .L11L12, .L13L21, .L22L23, .L31L32, .L33,
    .RBK, .GBK, .BBK, .LR1LR2, .LR3LG1, .LG2LG3, .LB1LB2, .LB3, .RFC, .GFC, .BFC, .OFX, .OFY, .H, .DQA, .DQB, .ZSF3,
    .ZSF4]

section WordsAfterUpdates

variable {r : RegName} (s : State)

theorem readReg_withV (h : r ∉ vectorWords) (x : Vertices) : readReg r (s.withV x) = readReg r s := by
  cases r with
  | VXY0 | VZ0 | VXY1 | VZ1 | VXY2 | VZ2 => exact absurd (by decide) h
  | _ => rfl

theorem readReg_withRgbc (h : r ≠ .RGBC) (x : Color) : readReg r (s.withRgbc x) = readReg r s := by
  cases r with
  | RGBC => exact absurd rfl h
  | _ => rfl

theorem readReg_withOtz (h : r ≠ .OTZ) (x : BitVec 16) : readReg r (s.withOtz x) = readReg r s := by
  cases r with
  | OTZ => exact absurd rfl h
  | _ => rfl

theorem readReg_withIr0 (h : r ≠ .IR0) (x : BitVec 16) : readReg r (s.withIr0 x) = readReg r s := by
  cases r with
  | IR0 => exact absurd rfl h
  | _ => rfl

theorem readReg_withIr (h : r ∉ irWords) (x : Vec3 (BitVec 16)) : readReg r (s.withIr x) = readReg r s := by
  cases r with
  | IR1 | IR2 | IR3 => exact absurd (by decide) h
  | _ => rfl

theorem readReg_withSxy (h : r ∉ screenXYWords) (x : Fifo3 ScreenXY) : readReg r (s.withSxy x) = readReg r s := by
  cases r with
  | SXY0 | SXY1 | SXY2 => exact absurd (by decide) h
  | _ => rfl

theorem readReg_withSz (h : r ∉ screenZWords) (x : Fifo4 (BitVec 16)) : readReg r (s.withSz x) = readReg r s := by
  cases r with
  | SZ0 | SZ1 | SZ2 | SZ3 => exact absurd (by decide) h
  | _ => rfl

theorem readReg_withRgb (h : r ∉ colourWords) (x : Fifo3 Color) : readReg r (s.withRgb x) = readReg r s := by
  cases r with
  | RGB0 | RGB1 | RGB2 => exact absurd (by decide) h
  | _ => rfl

theorem readReg_withMac0 (h : r ≠ .MAC0) (x : BitVec 32) : readReg r (s.withMac0 x) = readReg r s := by
  cases r with
  | MAC0 => exact absurd rfl h
  | _ => rfl

theorem readReg_withMac (h : r ∉ macWords) (x : Vec3 (BitVec 32)) : readReg r (s.withMac x) = readReg r s := by
  cases r with
  | MAC1 | MAC2 | MAC3 => exact absurd (by decide) h
  | _ => rfl

theorem readReg_withCtrl (h : r ∉ controlWords) (x : Control) : readReg r (s.withCtrl x) = readReg r s := by
  cases r with
  | RT11RT12 | RT13RT21 | RT22RT23 | RT31RT32 | RT33 | TRX | TRY | TRZ | L11L12 | L13L21 | L22L23 | L31L32 | L33
  | RBK | GBK | BBK | LR1LR2 | LR3LG1 | LG2LG3 | LB1LB2 | LB3 | RFC | GFC | BFC | OFX | OFY | H | DQA | DQB | ZSF3
  | ZSF4 => exact absurd (by decide) h
  | _ => rfl

theorem readReg_withFlag (h : r ≠ .FLAG) (f : FlagSet) : readReg r (s.withFlag f) = readReg r s := by
  cases r with
  | FLAG => exact absurd rfl h
  | _ => rfl

@[simp] theorem readReg_withLatches (sf lm : Bool) : readReg r (s.withLatches sf lm) = readReg r s := by
  cases r <;> rfl

@[simp] theorem readReg_withReplies (q : List Reply) : readReg r (s.withReplies q) = readReg r s := by
  cases r <;> rfl

end WordsAfterUpdates

/-- A write of a register word leaves every other word: those of other records because only one record changes, those
of its own record because only its own fields do (20_memory R54). -/
theorem readReg_writeReg_of_ne {r r' : RegName} (h : r' ≠ r) (w : Word) (s : State) :
    readReg r' (writeReg r w s) = readReg r' s := by
  cases r with
  | RGBC => exact readReg_withRgbc s h _
  | OTZ => exact readReg_withOtz s h _
  | IR0 => exact readReg_withIr0 s h _
  | MAC0 => exact readReg_withMac0 s h _
  | FLAG => exact readReg_withFlag s h _
  | VXY0 | VZ0 | VXY1 | VZ1 | VXY2 | VZ2 =>
    by_cases hg : r' ∈ vectorWords
    · fin_cases hg <;> first | exact absurd rfl h | rfl
    · exact readReg_withV s hg _
  | IR1 | IR2 | IR3 =>
    by_cases hg : r' ∈ irWords
    · fin_cases hg <;> first | exact absurd rfl h | rfl
    · exact readReg_withIr s hg _
  | SXY0 | SXY1 | SXY2 =>
    by_cases hg : r' ∈ screenXYWords
    · fin_cases hg <;> first | exact absurd rfl h | rfl
    · exact readReg_withSxy s hg _
  | SZ0 | SZ1 | SZ2 | SZ3 =>
    by_cases hg : r' ∈ screenZWords
    · fin_cases hg <;> first | exact absurd rfl h | rfl
    · exact readReg_withSz s hg _
  | RGB0 | RGB1 | RGB2 =>
    by_cases hg : r' ∈ colourWords
    · fin_cases hg <;> first | exact absurd rfl h | rfl
    · exact readReg_withRgb s hg _
  | MAC1 | MAC2 | MAC3 =>
    by_cases hg : r' ∈ macWords
    · fin_cases hg <;> first | exact absurd rfl h | rfl
    · exact readReg_withMac s hg _
  | RT11RT12 | RT13RT21 | RT22RT23 | RT31RT32 | RT33 | TRX | TRY | TRZ | L11L12 | L13L21 | L22L23 | L31L32 | L33
  | RBK | GBK | BBK | LR1LR2 | LR3LG1 | LG2LG3 | LB1LB2 | LB3 | RFC | GFC | BFC | OFX | OFY | H | DQA | DQB | ZSF3
  | ZSF4 =>
    by_cases hg : r' ∈ controlWords
    · fin_cases hg <;> first | exact absurd rfl h | rfl
    · exact readReg_withCtrl s hg _

/-! ### The register port and RESET -/

@[simp] theorem writeReg_sf (r : RegName) (w : Word) (s : State) : (writeReg r w s).sf = s.sf := by
  cases r <;> rfl

@[simp] theorem writeReg_lm (r : RegName) (w : Word) (s : State) : (writeReg r w s).lm = s.lm := by
  cases r <;> rfl

theorem applyTransaction_regWrite_indexOf (r : RegName) (w : Word) (s : State) :
    applyTransaction (.regWrite (indexOf r) w) s = .next (writeReg r w s) := by
  simp only [applyTransaction, execRegWrite, regOfIndex_indexOf]

/-- Settles O10: the step is the write itself, which leaves every other word by `readReg_writeReg_of_ne`. -/
theorem regWriteChangesNoOtherWord : Obligations.RegWriteChangesNoOtherWord := by
  intro r r' w s rest h
  refine ⟨writeReg r w (s.withPending rest), ?_, ?_, by simp, by simp, by simp, by simp, by simp⟩
  · rw [step_of_pending_cons (State.withPending_pending ..), applyTransaction_regWrite_indexOf,
      State.withPending_withPending]
  · rw [readReg_writeReg_of_ne h, readReg_withPending]

/-- Every register word reads 0 after RESET (10_state R49). -/
theorem readReg_reset (r : RegName) : readReg r State.reset = 0 := by
  cases r <;> rfl

/-- RESET keeps of the old state only the fields that are the model's own, which no register word reads. -/
theorem execReset_eq (s : State) :
    execReset s = .next (((State.reset.withParameter s.mx3Const60).withPending s.pending).withReplies s.replies) :=
  rfl

@[simp] theorem readReg_withParameter (r : RegName) (b : Bool) (s : State) :
    readReg r (s.withParameter b) = readReg r s := by
  cases r <;> rfl

/-- Settles O15: the words by `readReg_reset`; the fields that RESET sets or keeps, and the second RESET, by what
`execReset` answers. -/
theorem resetClearsTheRegisterFile : Obligations.ResetClearsTheRegisterFile := fun s =>
  ⟨_, execReset_eq s, fun r => by simp [readReg_reset], rfl, rfl, rfl, rfl, rfl, rfl, readReg_reset, rfl, rfl⟩

/-! ### What a command writes -/

/-- The words that a three-lane step writes. -/
def tripleWords : List RegName := macWords ++ irWords ++ [.FLAG]

/-- The words that a command ending in a colour push writes. -/
def colourResultWords : List RegName := macWords ++ irWords ++ colourWords ++ [.FLAG]

/-- The words that `rtps(n)` writes. -/
def perspectiveWords : List RegName :=
  [.MAC0] ++ macWords ++ [.IR0] ++ irWords ++ screenZWords ++ screenXYWords ++ [.FLAG]

section WordsAfterBodies

variable {r : RegName} (s : State)

theorem readReg_nclipBody (h : r ∉ [RegName.MAC0, .FLAG]) : readReg r (nclipBody s) = readReg r s := by
  simp only [List.mem_cons, List.not_mem_nil, or_false, not_or] at h
  obtain ⟨hmac0, hflag⟩ := h
  rw [nclipBody, setMac0_eq, readReg_withMac0 _ hmac0, readReg_withFlag _ hflag]

theorem readReg_averageZ (h : r ∉ [RegName.MAC0, .OTZ, .FLAG]) (v : Int) :
    readReg r (averageZ v s) = readReg r s := by
  simp only [List.mem_cons, List.not_mem_nil, or_false, not_or] at h
  obtain ⟨hmac0, hotz, hflag⟩ := h
  rw [averageZ_eq, readReg_withOtz _ hotz, readReg_withMac0 _ hmac0, readReg_withFlag _ hflag]

theorem readReg_setTriple (h : r ∉ tripleWords) (c : Vec3 Int) (lm : Bool) :
    readReg r (setTriple c lm s) = readReg r s := by
  simp only [tripleWords, List.mem_append, List.mem_singleton, not_or] at h
  obtain ⟨⟨hmac, hir⟩, hflag⟩ := h
  rw [setTriple_eq, readReg_withIr _ hir, readReg_withMac _ hmac, readReg_withFlag _ hflag]

theorem readReg_mvmvaBody (h : r ∉ tripleWords) (mx : MatrixSel) (vx : VectorSel) (tx : TranslationSel) (lm : Bool) :
    readReg r (mvmvaBody mx vx tx lm s) = readReg r s := by
  by_cases hfc : tx = .fc
  · rw [hfc, mvmvaBody_fc, mvmvaFarColour, farColourValueStep, farColourFlagStep, readReg_setTriple _ h,
      readReg_setTriple _ h]
  · rw [mvmvaBody_eq _ _ _ hfc, readReg_setTriple _ h]

theorem readReg_colourResult (h : r ∉ colourResultWords) (c : Vec3 Int) (lm : Bool) (g : FlagSet) :
    readReg r (s.colourResult c lm g) = readReg r s := by
  simp only [colourResultWords, List.mem_append, List.mem_singleton, not_or] at h
  obtain ⟨⟨⟨hmac, hir⟩, hrgb⟩, hflag⟩ := h
  rw [State.colourResult, readReg_withRgb _ hrgb, readReg_withIr _ hir, readReg_withMac _ hmac,
    readReg_withFlag _ hflag]

theorem readReg_ncsBody (h : r ∉ colourResultWords) (n : Vertex) (lm : Bool) :
    readReg r (ncsBody n lm s) = readReg r s := by
  rw [ncsBody_eq, readReg_colourResult _ h]

theorem readReg_nccsBody (h : r ∉ colourResultWords) (n : Vertex) (lm : Bool) :
    readReg r (nccsBody n lm s) = readReg r s := by
  rw [nccsBody_eq, readReg_colourResult _ h]

theorem readReg_ncdsBody (h : r ∉ colourResultWords) (n : Vertex) (lm : Bool) :
    readReg r (ncdsBody n lm s) = readReg r s := by
  rw [ncdsBody_eq, readReg_colourResult _ h]

theorem readReg_dpcsBody (h : r ∉ colourResultWords) (useFifo lm : Bool) :
    readReg r (dpcsBody useFifo lm s) = readReg r s := by
  rw [dpcsBody_eq, pushColor_interpolate, readReg_colourResult _ h]

theorem readReg_rtpsBody (h : r ∉ perspectiveWords) (n : Vertex) (lm : Bool) :
    readReg r (rtpsBody n lm s) = readReg r s := by
  simp only [perspectiveWords, List.mem_append, List.mem_singleton, not_or] at h
  obtain ⟨⟨⟨⟨⟨⟨hmac0, hmac⟩, hir0⟩, hir⟩, hsz⟩, hsxy⟩, hflag⟩ := h
  rw [rtpsBody_eq, State.projected, readReg_withSxy _ hsxy, readReg_withIr0 _ hir0, readReg_withMac0 _ hmac0,
    readReg_withFlag _ hflag, rtpsTransform_eq, readReg_withSz _ hsz, readReg_withIr _ hir, readReg_withMac _ hmac,
    readReg_withFlag _ hflag]

/-- A command's body leaves every word outside its "writes" column (10_state R39). -/
theorem readReg_commandBody {i : Instr} (h : r ∉ mayWrite i) : readReg r (commandBody i s) = readReg r s := by
  cases i with
  | nclip => exact readReg_nclipBody s h
  | avsz3 | avsz4 => exact readReg_averageZ s h _
  | op | sqr => exact readReg_setTriple s h _ _
  | mvmva => exact readReg_mvmvaBody s h _ _ _ _
  | rtps => exact readReg_rtpsBody s h _ _
  | rtpt => rw [commandBody, readReg_rtpsBody _ h, readReg_rtpsBody _ h, readReg_rtpsBody _ h]
  | ncs => exact readReg_ncsBody s h _ _
  | nct => rw [commandBody, readReg_ncsBody _ h, readReg_ncsBody _ h, readReg_ncsBody _ h]
  | nccs => exact readReg_nccsBody s h _ _
  | ncct => rw [commandBody, readReg_nccsBody _ h, readReg_nccsBody _ h, readReg_nccsBody _ h]
  | ncds => exact readReg_ncdsBody s h _ _
  | ncdt => rw [commandBody, readReg_ncdsBody _ h, readReg_ncdsBody _ h, readReg_ncdsBody _ h]
  | dpcs => exact readReg_dpcsBody s h _ _
  | dpct => rw [commandBody, readReg_dpcsBody _ h, readReg_dpcsBody _ h, readReg_dpcsBody _ h]
  | cc => rw [commandBody, ccBody_eq, readReg_colourResult _ h]
  | cdp => rw [commandBody, cdpBody_eq, readReg_colourResult _ h]
  | dcpl => rw [commandBody, dcplBody, pushColor_interpolate, readReg_colourResult _ h]
  | intpl => rw [commandBody, intplBody, pushColor_interpolate, readReg_colourResult _ h]
  | gpf => rw [commandBody, gpfBody, pushColor_setTriple, readReg_colourResult _ h]
  | gpl => rw [commandBody, gplBody, pushColor_setTriple, readReg_colourResult _ h]

end WordsAfterBodies

/-- A command leaves every word outside its "writes" column (10_state R39). -/
theorem readReg_of_exec_next {i : Instr} {s t : State} (he : exec i s = .next t) {r : RegName} (h : r ∉ mayWrite i) :
    readReg r t = readReg r s := by
  rw [exec_eq] at he
  injection he with he
  rw [← he, readReg_commandBody _ h, readReg_withLatches]

/-- Settles O19: the words by `readReg_of_exec_next`, the three records by `commandBody_kept`. -/
theorem commandsWriteOnlyTheirRegisters : Obligations.CommandsWriteOnlyTheirRegisters := by
  intro i s
  have hk := commandBody_kept i (s.withLatches (sfOf i) (lmOf i))
  exact ⟨_, exec_eq i s, fun r h => readReg_of_exec_next (exec_eq i s) h, congrArg Kept.v hk, congrArg Kept.rgbc hk,
    congrArg Kept.ctrl hk⟩

/-! ### The ranges that every step keeps -/

/-- The ranges of 10_state R15 and R17 speak of four register words only. -/
theorem commandRanges_of_words {s t : State} (hs : CommandRanges s)
    (h : ∀ r ∈ RegName.IR0 :: screenXYWords, readReg r t = readReg r s) : CommandRanges t := by
  have hir0 : t.ir0 = s.ir0 := by
    rw [← lowHalf_signedWord t.ir0, ← lowHalf_signedWord s.ir0]
    exact congrArg lowHalf (h .IR0 (by decide))
  have hpoint : ∀ {p q : ScreenXY}, pairWord p.x p.y = pairWord q.x q.y → ScreenInRange q → ScreenInRange p := by
    intro p q hpq
    have hx := congrArg lowHalf hpq
    have hy := congrArg highHalf hpq
    simp only [lowHalf_pairWord, highHalf_pairWord] at hx hy
    simp only [ScreenInRange, hx, hy, imp_self]
  obtain ⟨hlo, hhi, h0, h1, h2⟩ := hs
  exact ⟨hir0 ▸ hlo, hir0 ▸ hhi, hpoint (h .SXY0 (by decide)) h0, hpoint (h .SXY1 (by decide)) h1,
    hpoint (h .SXY2 (by decide)) h2⟩

/-- A clamped value lies in the range it was clamped to when it is read back from its 16-bit register. -/
theorem toInt_ofInt16_sat_mem (lo hi : Int) (hlo : -32768 ≤ lo) (h : lo ≤ hi) (hhi : hi ≤ 32767) (v : Int) :
    lo ≤ (BitVec.ofInt 16 (sat lo hi v)).toInt ∧ (BitVec.ofInt 16 (sat lo hi v)).toInt ≤ hi := by
  have hsat : lo ≤ sat lo hi v ∧ sat lo hi v ≤ hi := by unfold sat; omega
  rwa [toInt_ofInt16 (by omega) (by omega)]

/-- `rtps(n)` clamps what it writes to `IR[0]` and what it pushes on the screen XY FIFO. -/
theorem commandRanges_rtpsBody {s : State} (h : CommandRanges s) (n : Vertex) (lm : Bool) :
    CommandRanges (rtpsBody n lm s) := by
  obtain ⟨-, -, -, h1, h2⟩ := h
  have hcue := toInt_ofInt16_sat_mem 0 4096 (by decide) (by decide) (by decide)
  have hpoint := toInt_ofInt16_sat_mem (-1024) 1023 (by decide) (by decide) (by decide)
  simp only [rtpsBody_eq, rtpsTransform_eq, State.projected, CommandRanges, State.withSxy_ir0, State.withIr0_ir0,
    State.withSxy_sxy, State.withSz_sxy, State.withIr_sxy, State.withMac_sxy, State.withFlag_sxy]
  exact ⟨(hcue _).1, (hcue _).2, h1, h2, (hpoint _).1, (hpoint _).2, (hpoint _).1, (hpoint _).2⟩

/-- The ranges are kept by every command's body: `rtps` and `rtpt` clamp what they write, and no other command writes
these words. -/
theorem commandRanges_commandBody {s : State} (h : CommandRanges s) (i : Instr) : CommandRanges (commandBody i s) := by
  cases i with
  | rtps => exact commandRanges_rtpsBody h _ _
  | rtpt => exact commandRanges_rtpsBody (commandRanges_rtpsBody (commandRanges_rtpsBody h _ _) _ _) _ _
  | _ =>
    refine commandRanges_of_words h fun r hr => readReg_commandBody s ?_
    fin_cases hr <;> simp [mayWrite]

/-- A store of a register word that is not one of the four keeps the ranges. -/
theorem commandRanges_writeReg {s : State} (h : CommandRanges s) {r : RegName} (hr : r ∉ RegName.IR0 :: screenXYWords)
    (w : Word) : CommandRanges (writeReg r w s) :=
  commandRanges_of_words h fun _ hr' => readReg_writeReg_of_ne (ne_of_mem_of_not_mem hr' hr) w s

/-- The indices that `NoDirectStore` excludes are those of the four words. -/
theorem indexOf_mem_direct {r : RegName} (h : r ∈ RegName.IR0 :: screenXYWords) :
    indexOf r ∈ [8#6, 12#6, 13#6, 14#6] := by
  fin_cases h <;> decide

theorem commandRanges_reset : CommandRanges State.reset := by
  unfold CommandRanges ScreenInRange
  decide

/-- A transaction that is no direct store keeps the ranges. -/
theorem commandRanges_applyTransaction {tx : Transaction} {s t : State} (h : CommandRanges s)
    (hd : ∀ idx w, tx = .regWrite idx w → idx ∉ [8#6, 12#6, 13#6, 14#6]) (happ : applyTransaction tx s = .next t) :
    CommandRanges t := by
  obtain ⟨rfl, rfl⟩ | ⟨idx, r, rfl, -, rfl⟩ | ⟨idx, w, r, rfl, hr, rfl⟩ | ⟨rfl, rfl⟩ | ⟨cw, i, u, rfl, -, hu, rfl⟩ :=
    applyTransaction_next happ
  · exact commandRanges_reset
  · exact h
  · have hidx := hd idx w rfl
    rw [← indexOf_of_regOfIndex hr] at hidx
    exact commandRanges_writeReg h (mt indexOf_mem_direct hidx) w
  · exact h
  · rw [exec_eq] at hu
    injection hu with hu
    subst hu
    have hlatched : CommandRanges (s.withLatches (sfOf i) (lmOf i)) := h
    exact commandRanges_commandBody hlatched i

/-- Settles O26: the transaction that the step takes keeps the ranges by `commandRanges_applyTransaction`, and leaves
the queue without it. -/
theorem everyStepKeepsTheCommandRanges : Obligations.EveryStepKeepsTheCommandRanges := by
  intro s t hr hd h
  obtain ⟨-, -, hstep⟩ := stepAppliesTheOldestTransaction s
  obtain ⟨htail, -⟩ := hstep t h
  refine ⟨?_, fun idx w hmem => hd idx w (List.mem_of_mem_tail (htail ▸ hmem))⟩
  obtain ⟨-, rfl⟩ | ⟨tx, rest, hp, happ⟩ := step_next h
  · exact hr
  · have hrest : CommandRanges (s.withPending rest) := hr
    refine commandRanges_applyTransaction hrest (fun idx w htx => hd idx w ?_) happ
    rw [hp, htx]
    exact List.mem_cons_self

/-- Settles O27: the reset values are in the ranges and nothing waits. -/
theorem resetIsWithinTheCommandRanges : Obligations.ResetIsWithinTheCommandRanges :=
  ⟨commandRanges_reset, fun _ _ h => absurd h List.not_mem_nil⟩

/-! ### The FLAG word -/

theorem FlagBit.le_pos (b : FlagBit) : 12 ≤ b.pos := by cases b <;> decide

/-- The bits of the FLAG word: the stored ones in 30:12, `ERR` in bit 31, nothing below (20_memory R58). -/
theorem getLsbD_flagWord (f : FlagSet) (k : Nat) :
    (flagWord f).getLsbD k =
      if k < 12 then false else if k < 31 then f.getLsbD (k - 12) else decide (k = 31) && errBit f := by
  simp only [flagWord, BitVec.getLsbD_append, BitVec.getLsbD_zero, BitVec.getLsbD_ofBool]
  by_cases hlow : k < 12
  · rw [if_pos hlow, if_pos hlow]
  · have hstored : k - 12 < 19 ↔ k < 31 := by omega
    rw [if_neg hlow, if_neg hlow]
    by_cases hk : k < 31
    · rw [if_pos (hstored.2 hk), if_pos hk]
    · have herr : k - 12 - 19 = 0 ↔ k = 31 := by omega
      rw [if_neg (mt hstored.1 hk), if_neg hk, decide_eq_decide.2 herr]

/-- A stored condition reads at its bit of the FLAG word (10_state R33). -/
theorem getLsbD_flagWord_pos (f : FlagSet) (b : FlagBit) : (flagWord f).getLsbD b.pos = hasBit f b := by
  have hlo := b.le_pos
  have hhi := b.pos_sub_lt
  rw [getLsbD_flagWord, if_neg (by omega), if_pos (by omega), hasBit]

/-- A write of FLAG stores each condition from its bit of the word (20_memory R54). -/
theorem hasBit_flagOfWord (w : Word) (b : FlagBit) : hasBit (flagOfWord w) b = w.getLsbD b.pos := by
  rw [hasBit, flagOfWord, BitVec.getLsbD_extractLsb', decide_eq_true b.pos_sub_lt, Bool.true_and,
    Nat.add_sub_cancel' b.le_pos]

/-- Settles O17: each listed number is its condition's position, which `getLsbD_flagWord_pos` reads and
`hasBit_flagOfWord` writes. -/
theorem flagWordHoldsEachConditionAtItsBit : Obligations.FlagWordHoldsEachConditionAtItsBit := by
  refine fun s w => ⟨fun p hp => ?_, fun k hk => ?_⟩
  · have hpos : p.1 = p.2.pos := by revert p; decide
    exact ⟨hpos ▸ getLsbD_flagWord_pos s.flag p.2, hpos ▸ hasBit_flagOfWord w p.2⟩
  · exact (getLsbD_flagWord s.flag k).trans (if_pos hk)

/-- Two words share a 1 bit exactly when their AND is not 0. -/
theorem and_ne_zero_iff {n : Nat} (x m : BitVec n) :
    x &&& m ≠ 0 ↔ ∃ k, m.getLsbD k = true ∧ x.getLsbD k = true := by
  constructor
  · intro h
    by_contra hnone
    refine h (BitVec.eq_of_getLsbD_eq fun k _ => Eq.trans ?_ BitVec.getLsbD_zero.symm)
    rw [BitVec.getLsbD_and, Bool.eq_false_iff, Ne, Bool.and_eq_true]
    exact fun hk => hnone ⟨k, hk.2, hk.1⟩
  · rintro ⟨k, hm, hx⟩ h
    have hk : (x &&& m).getLsbD k = true := by rw [BitVec.getLsbD_and, hx, hm, Bool.and_self]
    rw [h] at hk
    exact absurd hk (by simp)

/-- The bit numbers of the FLAG word that `ERR` summarises (10_state R34). -/
def errPositions : List Nat := [30, 29, 28, 27, 26, 25, 24, 23, 18, 17, 16, 15, 14, 13]

/-- The mask 0x7F87E000 has its 1 bits at those positions. -/
theorem getLsbD_errMask (k : Nat) : (0x7F87E000 : Word).getLsbD k = true ↔ k ∈ errPositions := by
  by_cases hk : k < 32
  · revert k; decide
  · have hbig : ∀ j ∈ errPositions, j < 32 := by decide
    rw [BitVec.getLsbD_of_ge _ _ (by omega)]
    exact ⟨fun h => absurd h Bool.false_ne_true, fun h => absurd (hbig k h) hk⟩

/-- `ERR` is set exactly when a bit of its subset is (10_state R34). -/
theorem errBit_iff (f : FlagSet) : errBit f = true ↔ ∃ k ∈ errPositions, (flagWord f).getLsbD k = true := by
  have hstored : ∀ k ∈ errPositions, 12 ≤ k ∧ k < 31 ∧ errSubset.getLsbD (k - 12) = true := by decide
  have hsubset : ∀ j < 19, errSubset.getLsbD j = true → j + 12 ∈ errPositions := by decide
  rw [errBit, bne_iff_ne, and_ne_zero_iff]
  constructor
  · rintro ⟨j, hj, hf⟩
    have hmem := hsubset j (BitVec.lt_of_getLsbD hj) hj
    obtain ⟨-, hlt, -⟩ := hstored _ hmem
    exact ⟨j + 12, hmem, by rwa [getLsbD_flagWord, if_neg (by omega), if_pos hlt, Nat.add_sub_cancel]⟩
  · rintro ⟨k, hk, hf⟩
    obtain ⟨hle, hlt, hbit⟩ := hstored k hk
    rw [getLsbD_flagWord, if_neg (by omega), if_pos hlt] at hf
    exact ⟨k - 12, hbit, hf⟩

/-- Bit 31 of a written FLAG word is not stored (10_state R34). -/
theorem flagOfWord_or_bit31 (w : Word) : flagOfWord (w ||| 0x80000000) = flagOfWord w := by
  refine FlagSet.ext_bits fun b => ?_
  have hclear : (0x80000000 : Word).getLsbD b.pos = false := by cases b <;> decide
  rw [hasBit_flagOfWord, hasBit_flagOfWord, BitVec.getLsbD_or, hclear, Bool.or_false]

/-- Settles O16: bit 31 of the word is `ERR`, which `errBit_iff` gives by positions and `and_ne_zero_iff` by the
mask; a write does not store it. -/
theorem errBitIsTheOrOfItsSubset : Obligations.ErrBitIsTheOrOfItsSubset := by
  intro s w
  have herr : (readReg .FLAG s).getLsbD 31 = true ↔ ∃ k ∈ errPositions, (readReg .FLAG s).getLsbD k = true := by
    simp only [readReg]
    rw [← errBit_iff, getLsbD_flagWord]
    rfl
  refine ⟨herr, ?_, congrArg s.withFlag (flagOfWord_or_bit31 w)⟩
  rw [herr, and_ne_zero_iff]
  simp only [getLsbD_errMask]

/-! ### Which flag bits a command raises -/

/-- Every bit of the set is one of those listed. -/
def Within (bits : List FlagBit) (g : FlagSet) : Prop := ∀ b, hasBit g b = true → b ∈ bits

theorem within_or {bits : List FlagBit} {f g : FlagSet} : Within bits (f ||| g) ↔ Within bits f ∧ Within bits g := by
  simp only [Within, hasBit_or, Bool.or_eq_true, or_imp, forall_and]

theorem Within.mono {bits bits' : List FlagBit} {g : FlagSet} (h : Within bits g) (hs : bits ⊆ bits') :
    Within bits' g := fun b hb => hs (h b hb)

theorem within_noFlags (bits : List FlagBit) : Within bits noFlags := fun b hb => by simp at hb

theorem within_mask {bits : List FlagBit} {a : FlagBit} (h : a ∈ bits) : Within bits a.mask := by
  intro b hb
  rw [hasBit_mask, decide_eq_true_eq] at hb
  exact hb ▸ h

theorem within_flagWhen {bits : List FlagBit} {a : FlagBit} (h : a ∈ bits) (c : Bool) :
    Within bits (flagWhen c a) := by
  cases c
  · exact within_noFlags bits
  · exact within_mask h

theorem within_clip {bits : List FlagBit} {a : FlagBit} (h : a ∈ bits) (v hi lo : Int) :
    Within bits (clip v hi lo a.mask).2 := by
  rw [clip_snd]
  split
  · exact within_mask h
  · exact within_noFlags bits

theorem within_check32 {bits : List FlagBit} (hp : .mac0Pos ∈ bits) (hn : .mac0Neg ∈ bits) (v : Int) :
    Within bits (check32 v) :=
  within_or.2 ⟨within_flagWhen hp _, within_flagWhen hn _⟩

theorem within_check44 {bits : List FlagBit} {p n : FlagBit} (hp : p ∈ bits) (hn : n ∈ bits) (v : Int) :
    Within bits (check44 v p n) :=
  within_or.2 ⟨within_flagWhen hp _, within_flagWhen hn _⟩

theorem within_laneFlags (i : Lane) (sf lm : Bool) (v : Int) : Within (macBits ++ irBits) (laneFlags i sf lm v) :=
  within_or.2 ⟨within_check44 (by cases i <;> decide) (by cases i <;> decide) v,
    within_clip (by cases i <;> decide) _ _ _⟩

theorem within_tripleFlags (sf lm : Bool) (c : Vec3 Int) : Within (macBits ++ irBits) (tripleFlags sf lm c) :=
  within_or.2 ⟨within_or.2 ⟨within_laneFlags _ _ _ _, within_laneFlags _ _ _ _⟩, within_laneFlags _ _ _ _⟩

theorem within_colourFlags (m : Vec3 (BitVec 32)) : Within colourBits (colourFlags m) :=
  within_or.2 ⟨within_or.2 ⟨within_clip (by decide) _ _ _, within_clip (by decide) _ _ _⟩,
    within_clip (by decide) _ _ _⟩

/-- A sum that cannot overflow the 44-bit range of `MAC[1..3]`. -/
def Fits44 (v : Int) : Prop := -8796093022208 ≤ v ∧ v < 8796093022208

/-- A lane whose sum fits raises no accumulator flag. -/
theorem within_laneFlags_of_fits {v : Int} (h : Fits44 v) (i : Lane) (sf lm : Bool) :
    Within irBits (laneFlags i sf lm v) := by
  rw [laneFlags, check44_inRange h.1 h.2]
  exact within_or.2 ⟨within_noFlags _, within_clip (by cases i <;> decide) _ _ _⟩

theorem within_tripleFlags_of_fits {c : Vec3 Int} (hx : Fits44 c.x) (hy : Fits44 c.y) (hz : Fits44 c.z)
    (sf lm : Bool) : Within irBits (tripleFlags sf lm c) :=
  within_or.2 ⟨within_or.2 ⟨within_laneFlags_of_fits hx _ _ _, within_laneFlags_of_fits hy _ _ _⟩,
    within_laneFlags_of_fits hz _ _ _⟩

/-- Products of 16-bit registers are far inside the 44-bit range. -/
theorem mul_toInt16_bounds (a b : BitVec 16) :
    -1073741824 ≤ a.toInt * b.toInt ∧ a.toInt * b.toInt ≤ 1073741824 :=
  ⟨BitVec.le_toInt_mul_toInt, BitVec.toInt_mul_toInt_le⟩

theorem fits44_mul (a b : BitVec 16) : Fits44 (a.toInt * b.toInt) := by
  have := mul_toInt16_bounds a b
  exact ⟨by omega, by omega⟩

theorem fits44_mul_sub_mul (a b c d : BitVec 16) : Fits44 (a.toInt * b.toInt - c.toInt * d.toInt) := by
  have := mul_toInt16_bounds a b
  have := mul_toInt16_bounds c d
  exact ⟨by omega, by omega⟩

/-- A part of a command treats flags as outputs (10_state R36): from whatever FLAG it starts, it writes the same values
and raises one and the same set, of listed bits only (60_exceptions R161). -/
def Raises (bits : List FlagBit) (body : State → State) : Prop :=
  ∀ s, ∃ g, Within bits g ∧ ∀ f, body (s.withFlag f) = (body s).withFlag (f ||| g)

theorem Raises.mono {bits bits' : List FlagBit} {body : State → State} (h : Raises bits body) (hs : bits ⊆ bits') :
    Raises bits' body := fun s =>
  let ⟨g, hg, hf⟩ := h s
  ⟨g, hg.mono hs, hf⟩

/-- One part after another raises the union of what they raise. -/
theorem Raises.comp {bits : List FlagBit} {body body' : State → State} (h : Raises bits body)
    (h' : Raises bits body') : Raises bits fun s => body' (body s) := by
  intro s
  obtain ⟨g, hg, hf⟩ := h s
  obtain ⟨g', hg', hf'⟩ := h' (body s)
  refine ⟨g ||| g', within_or.2 ⟨hg, hg'⟩, fun f => ?_⟩
  simp only [hf, hf', BitVec.or_assoc]

/-- Started from the FLAG there is, a part ORs what it raises into it. -/
theorem Raises.flag_eq {bits : List FlagBit} {body : State → State} (h : Raises bits body) (s : State) :
    ∃ g, Within bits g ∧ (body s).flag = s.flag ||| g :=
  let ⟨g, hg, hf⟩ := h s
  ⟨g, hg, congrArg State.flag (hf s.flag)⟩

/-- Three-lane step on sums that do not read FLAG. -/
theorem raises_setTriple (c : State → Vec3 Int) (hc : ∀ s f, c (s.withFlag f) = c s) (lm : Bool) :
    Raises (macBits ++ irBits) fun s => setTriple (c s) lm s := fun s =>
  ⟨_, within_tripleFlags s.sf lm (c s), fun f => by simp [hc, setTriple_eq]⟩

/-- Three-lane step on sums that do not read FLAG and cannot overflow. -/
theorem raises_setTriple_of_fits (c : State → Vec3 Int) (hc : ∀ s f, c (s.withFlag f) = c s)
    (hx : ∀ s, Fits44 (c s).x) (hy : ∀ s, Fits44 (c s).y) (hz : ∀ s, Fits44 (c s).z) (lm : Bool) :
    Raises irBits fun s => setTriple (c s) lm s := fun s =>
  ⟨_, within_tripleFlags_of_fits (hx s) (hy s) (hz s) s.sf lm, fun f => by simp [hc, setTriple_eq]⟩

/-- Blend of a source that does not read FLAG. -/
theorem raises_interpolate (c : State → Vec3 Int) (hc : ∀ s f, c (s.withFlag f) = c s) (lm : Bool) :
    Raises (macBits ++ irBits) fun s => interpolate (c s) lm s := fun s =>
  ⟨_, within_or.2 ⟨within_tripleFlags s.sf false (differenceSums s (c s)),
      within_tripleFlags s.sf lm (interpolated s s.sf (c s))⟩, fun f => by
    have hd : differenceSums (s.withFlag f) (c s) = differenceSums s (c s) := differenceSums_congr rfl _
    have hi : interpolated (s.withFlag f) s.sf (c s) = interpolated s s.sf (c s) := interpolated_congr rfl rfl _ _
    simp [hc, interpolate_eq, hd, hi]⟩

theorem raises_pushColor : Raises colourBits pushColor := fun s =>
  ⟨_, within_colourFlags s.mac, fun f => by simp [pushColor_eq]⟩

/-- A part followed by a colour push. -/
theorem Raises.thenPush {bits : List FlagBit} {body : State → State} (h : Raises bits body) :
    Raises (bits ++ colourBits) fun s => pushColor (body s) :=
  (h.mono (List.subset_append_left ..)).comp (raises_pushColor.mono (List.subset_append_right ..))

theorem raises_lightVector (n : Vertex) (lm : Bool) : Raises (macBits ++ irBits) (lightVector n lm) := by
  rw [show lightVector n lm = _ from funext (lightVector_eq n lm)]
  exact raises_setTriple _ (fun _ _ => rfl) lm

theorem raises_lightColour (lm : Bool) : Raises (macBits ++ irBits) (lightColour lm) :=
  raises_setTriple (fun s => colourSums s (ints s.ir)) (fun _ _ => rfl) lm

theorem raises_modulate (lm : Bool) : Raises (macBits ++ irBits) (modulate lm) :=
  raises_setTriple litColour (fun _ _ => rfl) lm

theorem raises_cueLit (lm : Bool) : Raises (macBits ++ irBits) (cueLit lm) :=
  raises_interpolate litColour (fun _ _ => rfl) lm

/-- Both lighting stages of a vertex. -/
theorem raises_lighting (n : Vertex) (lm : Bool) :
    Raises (macBits ++ irBits) fun s => lightColour lm (lightVector n lm s) :=
  (raises_lightVector n lm).comp (raises_lightColour lm)

theorem raises_ncsBody (n : Vertex) (lm : Bool) : Raises (macBits ++ irBits ++ colourBits) (ncsBody n lm) :=
  (raises_lighting n lm).thenPush

theorem raises_nccsBody (n : Vertex) (lm : Bool) : Raises (macBits ++ irBits ++ colourBits) (nccsBody n lm) :=
  ((raises_lighting n lm).comp (raises_modulate lm)).thenPush

theorem raises_ncdsBody (n : Vertex) (lm : Bool) : Raises (macBits ++ irBits ++ colourBits) (ncdsBody n lm) :=
  ((raises_lighting n lm).comp (raises_cueLit lm)).thenPush

theorem raises_ccBody (lm : Bool) : Raises (macBits ++ irBits ++ colourBits) (ccBody lm) :=
  ((raises_lightColour lm).comp (raises_modulate lm)).thenPush

theorem raises_cdpBody (lm : Bool) : Raises (macBits ++ irBits ++ colourBits) (cdpBody lm) :=
  ((raises_lightColour lm).comp (raises_cueLit lm)).thenPush

theorem raises_dpcsBody (useFifo lm : Bool) : Raises (macBits ++ irBits ++ colourBits) (dpcsBody useFifo lm) :=
  (raises_interpolate (fun s => colourTimes65536 (cuedColour useFifo s)) (fun _ _ => rfl) lm).thenPush

theorem raises_dcplBody (lm : Bool) : Raises (macBits ++ irBits ++ colourBits) (dcplBody lm) :=
  (raises_cueLit lm).thenPush

theorem raises_intplBody (lm : Bool) : Raises (macBits ++ irBits ++ colourBits) (intplBody lm) :=
  (raises_interpolate irSource (fun _ _ => rfl) lm).thenPush

theorem raises_gplBody (lm : Bool) : Raises (macBits ++ irBits ++ colourBits) (gplBody lm) :=
  (raises_setTriple (fun s =>
    ⟨gplOperand s.sf s.mac.x + s.ir0.toInt * s.ir.x.toInt, gplOperand s.sf s.mac.y + s.ir0.toInt * s.ir.y.toInt,
      gplOperand s.sf s.mac.z + s.ir0.toInt * s.ir.z.toInt⟩) (fun _ _ => rfl) lm).thenPush

/-- `gpf` sums single products of 16-bit registers. -/
theorem raises_gpfBody (lm : Bool) : Raises (irBits ++ colourBits) (gpfBody lm) :=
  (raises_setTriple_of_fits (fun s =>
    ⟨s.ir0.toInt * s.ir.x.toInt, s.ir0.toInt * s.ir.y.toInt, s.ir0.toInt * s.ir.z.toInt⟩) (fun _ _ => rfl)
    (fun _ => fits44_mul ..) (fun _ => fits44_mul ..) (fun _ => fits44_mul ..) lm).thenPush

/-- `sqr` sums single products of 16-bit registers. -/
theorem raises_sqrBody (lm : Bool) : Raises irBits (sqrBody lm) :=
  raises_setTriple_of_fits (fun s =>
    ⟨s.ir.x.toInt * s.ir.x.toInt, s.ir.y.toInt * s.ir.y.toInt, s.ir.z.toInt * s.ir.z.toInt⟩) (fun _ _ => rfl)
    (fun _ => fits44_mul ..) (fun _ => fits44_mul ..) (fun _ => fits44_mul ..) lm

/-- `op` sums differences of two products of 16-bit registers. -/
theorem raises_opBody (lm : Bool) : Raises irBits (opBody lm) :=
  raises_setTriple_of_fits (fun s => crossDiagonal (rotationDiagonal s) (Vec3.signed s.ir)) (fun _ _ => rfl)
    (fun _ => fits44_mul_sub_mul ..) (fun _ => fits44_mul_sub_mul ..) (fun _ => fits44_mul_sub_mul ..) lm

theorem raises_mvmvaBody (mx : MatrixSel) (vx : VectorSel) (tx : TranslationSel) (lm : Bool) :
    Raises (macBits ++ irBits) (mvmvaBody mx vx tx lm) := by
  have hm : ∀ s f, namedMatrix (State.withFlag s f) mx = namedMatrix s mx := fun _ _ => rfl
  have hv : ∀ s f, namedVector (State.withFlag s f) vx = namedVector s vx := fun _ _ => rfl
  have ht : ∀ s f, namedTranslation (State.withFlag s f) tx = namedTranslation s tx := fun _ _ => rfl
  by_cases hfc : tx = .fc
  · subst hfc
    refine fun s => ⟨_, within_or.2
      ⟨within_tripleFlags s.sf false (farColourSums s (namedMatrix s mx) (namedVector s vx)),
        within_tripleFlags s.sf lm (lastColumnSums (namedMatrix s mx) (namedVector s vx))⟩, fun f => ?_⟩
    simp [mvmvaBody_fc, mvmvaFarColour_eq, hm, hv, farColourSums]
  · rw [show mvmvaBody mx vx tx lm = _ from funext (mvmvaBody_eq mx vx tx hfc lm)]
    exact raises_setTriple _ (fun s f => by rw [hm, hv, ht]) lm

theorem raises_nclipBody : Raises [.mac0Pos, .mac0Neg] nclipBody := fun s =>
  ⟨_, within_check32 (by decide) (by decide) (nclipSum s.sxy), fun f => by simp [nclipBody, setMac0_eq]⟩

theorem raises_averageZ (v : State → Int) (hv : ∀ s f, v (s.withFlag f) = v s) :
    Raises [.mac0Pos, .mac0Neg, .sz3OtzSat] fun s => averageZ (v s) s := fun s =>
  ⟨_, within_or.2 ⟨within_check32 (by decide) (by decide) (v s),
      within_clip (by decide : FlagBit.sz3OtzSat ∈ _) (v s / 4096) 65535 0⟩, fun f => by simp [hv, averageZ_eq]⟩

/-- The flag bits of `rtps(n)` (60_exceptions R161). -/
def perspectiveBits : List FlagBit :=
  macBits ++ irBits ++ [FlagBit.sz3OtzSat, .divOvf, .mac0Pos, .mac0Neg, .sx2Sat, .sy2Sat, .ir0Sat]

theorem raises_rtpsTransform (n : Vertex) (lm : Bool) : Raises perspectiveBits (rtpsTransform n lm) := by
  intro s
  have hc : ∀ f, transformSums (s.withFlag f) n = transformSums s n := fun _ => rfl
  have hlane : ∀ i v, Within perspectiveBits (laneFlags i s.sf lm v) := fun i v =>
    (within_laneFlags i s.sf lm v).mono (List.subset_append_left ..)
  have hmac : ∀ v, Within perspectiveBits (check44 v .mac3Pos .mac3Neg) :=
    within_check44 (by decide) (by decide)
  have hir : ∀ v lo, Within perspectiveBits (clip v 0x7fff lo FlagBit.ir3Sat.mask).2 := fun _ _ =>
    within_clip (by decide) _ _ _
  have hsz : ∀ v, Within perspectiveBits (clip v 0xffff 0 FlagBit.sz3OtzSat.mask).2 := fun _ =>
    within_clip (by decide) _ _ _
  exact ⟨_, within_or.2 ⟨within_or.2 ⟨within_or.2 ⟨within_or.2 ⟨hlane .one (transformSums s n).x,
    hlane .two (transformSums s n).y⟩, hmac (transformSums s n).z⟩,
    hir ((transformSums s n).z / 4096) (irMin (s.sf && lm))⟩, hsz ((transformSums s n).z / 4096)⟩,
    fun f => by simp [rtpsTransform_eq, hc]⟩

theorem within_divideUNR (lhs rhs : BitVec 16) : Within perspectiveBits (divideUNR lhs rhs).2 := by
  rw [divideUNR_eq]
  split
  · exact within_mask (by decide)
  · exact within_noFlags _

theorem within_projectFlags {g : FlagSet} (hg : Within perspectiveBits g) (x y d : Int) :
    Within perspectiveBits (projectFlags g x y d) := by
  simp only [projectFlags, within_or]
  exact ⟨⟨⟨⟨⟨⟨hg, within_check32 (by decide) (by decide) x⟩, within_check32 (by decide) (by decide) y⟩,
    within_clip (by decide) _ _ _⟩, within_clip (by decide) _ _ _⟩, within_check32 (by decide) (by decide) d⟩,
    within_clip (by decide) _ _ _⟩

theorem State.withFlag_projected (s : State) (f g : FlagSet) (x y d : Int) :
    (s.withFlag f).projected g x y d = (s.projected g x y d).withFlag (f ||| projectFlags g x y d) := rfl

theorem raises_rtpsProject : Raises perspectiveBits rtpsProject := fun s =>
  ⟨_, within_projectFlags (within_divideUNR s.ctrl.h s.sz.e3) _ _ _, fun f => by
    have hcue : ∀ q, cueSum q (s.withFlag f) = cueSum q s := fun _ => rfl
    simp only [rtpsProject_eq, State.withFlag_projected, State.withFlag_ctrl, State.withFlag_sz, State.withFlag_ir,
      hcue]
    rfl⟩

theorem raises_rtpsBody (n : Vertex) (lm : Bool) : Raises perspectiveBits (rtpsBody n lm) :=
  (raises_rtpsTransform n lm).comp raises_rtpsProject

/-- Every command's body treats flags as outputs and raises only the bits of its list. -/
theorem raises_commandBody (i : Instr) : Raises (mayRaise i) (commandBody i) := by
  cases i with
  | rtps sf lm => exact raises_rtpsBody .v0 lm
  | rtpt sf lm => exact (((raises_rtpsBody .v0 lm).comp (raises_rtpsBody .v1 lm)).comp (raises_rtpsBody .v2 lm) :)
  | nclip sf lm => exact raises_nclipBody
  | avsz3 sf lm => exact raises_averageZ avsz3Sum fun _ _ => rfl
  | avsz4 sf lm => exact raises_averageZ avsz4Sum fun _ _ => rfl
  | op sf lm => exact raises_opBody lm
  | sqr sf lm => exact raises_sqrBody lm
  | mvmva sf lm mx vx tx => exact raises_mvmvaBody mx vx tx lm
  | gpf sf lm => exact raises_gpfBody lm
  | gpl sf lm => exact raises_gplBody lm
  | dpcs sf lm => exact raises_dpcsBody false lm
  | dpct sf lm => exact (((raises_dpcsBody true lm).comp (raises_dpcsBody true lm)).comp (raises_dpcsBody true lm) :)
  | dcpl sf lm => exact raises_dcplBody lm
  | intpl sf lm => exact raises_intplBody lm
  | cc sf lm => exact raises_ccBody lm
  | cdp sf lm => exact raises_cdpBody lm
  | ncs sf lm => exact raises_ncsBody .v0 lm
  | nct sf lm => exact (((raises_ncsBody .v0 lm).comp (raises_ncsBody .v1 lm)).comp (raises_ncsBody .v2 lm) :)
  | nccs sf lm => exact raises_nccsBody .v0 lm
  | ncct sf lm => exact (((raises_nccsBody .v0 lm).comp (raises_nccsBody .v1 lm)).comp (raises_nccsBody .v2 lm) :)
  | ncds sf lm => exact raises_ncdsBody .v0 lm
  | ncdt sf lm => exact (((raises_ncdsBody .v0 lm).comp (raises_ncdsBody .v1 lm)).comp (raises_ncdsBody .v2 lm) :)

/-- What a command does to FLAG: it ORs a set of its own bits into it (10_state R35). -/
theorem flag_of_exec_next {i : Instr} {s t : State} (h : exec i s = .next t) :
    ∃ g, Within (mayRaise i) g ∧ t.flag = s.flag ||| g := by
  rw [exec_eq] at h
  injection h with h
  exact h ▸ (raises_commandBody i).flag_eq (s.withLatches (sfOf i) (lmOf i))

/-- Settles O20: each bit of FLAG after is one before or one of the set OR-ed into it (`flag_of_exec_next`). -/
theorem commandsRaiseOnlyTheirFlags : Obligations.CommandsRaiseOnlyTheirFlags := by
  intro i s
  obtain ⟨g, hg, hflag⟩ := flag_of_exec_next (exec_eq i s)
  refine ⟨_, exec_eq i s, fun b => ?_⟩
  simp only [State.flagged, hflag, hasBit_or, Bool.or_eq_true]
  exact ⟨.inl, Or.imp_right (hg b)⟩

/-- Settles O22: the same set is raised whatever FLAG the body starts from (`raises_commandBody`). -/
theorem flagsAreOutputsOnly : Obligations.FlagsAreOutputsOnly := by
  intro i s
  obtain ⟨g, -, hf⟩ := raises_commandBody i (s.withLatches (sfOf i) (lmOf i))
  refine ⟨_, g, exec_eq i s, congrArg State.flag (hf s.flag), fun f => ?_⟩
  rw [exec_eq, State.withFlag_withLatches, hf]

/-- A store of another word leaves FLAG, whose bits are read back from its word. -/
theorem writeReg_flag_of_ne {r : RegName} (h : RegName.FLAG ≠ r) (w : Word) (s : State) :
    (writeReg r w s).flag = s.flag := by
  rw [← flagOfWord_flagWord (writeReg r w s).flag, ← flagOfWord_flagWord s.flag]
  exact congrArg flagOfWord (readReg_writeReg_of_ne h w s)

/-- Settles O21: of what a transaction can do (`applyTransaction_next`), a command ORs into FLAG, a read and a store of
another word leave it, and a store of FLAG takes each bit from its word. -/
theorem flagBitsAreSticky : Obligations.FlagBitsAreSticky := by
  refine ⟨fun i s => ?_, fun tx s t b happ hs ht => ?_⟩
  · obtain ⟨g, -, hflag⟩ := flag_of_exec_next (exec_eq i s)
    exact ⟨_, g, exec_eq i s, hflag⟩
  · have changed : t.flag ≠ s.flag := fun e => by
      rw [State.flagged, e, ← State.flagged, hs] at ht
      cases ht
    obtain ⟨rfl, -⟩ | ⟨idx, r, -, -, rfl⟩ | ⟨idx, w, r, rfl, hr, rfl⟩ | ⟨rfl, -⟩ | ⟨cw, i, u, -, -, hu, rfl⟩ :=
      applyTransaction_next happ
    · exact .inl rfl
    · exact absurd rfl changed
    · by_cases hflag : RegName.FLAG = r
      · subst hflag
        refine .inr (.inr ⟨w, congrArg (Transaction.regWrite · w) (indexOf_of_regOfIndex hr).symm, ?_⟩)
        rw [← hasBit_flagOfWord]
        exact ht
      · exact absurd (writeReg_flag_of_ne hflag w s) changed
    · exact .inr (.inl rfl)
    · obtain ⟨g, -, hflag⟩ := flag_of_exec_next hu
      rw [State.flagged, State.withReplies_flag, hflag, hasBit_or, ← State.flagged, hs] at ht
      cases ht

/-! ### Latches and the lower limit -/

/-- Settles O23: `exec` loads both latches before the body runs (`exec_eq`), so what they held is overwritten. -/
theorem latchesHaveNoEffectOnLaterCommands : Obligations.LatchesHaveNoEffectOnLaterCommands := by
  intro i s a b
  rw [exec_eq, exec_eq, State.withLatches_withLatches]

/-- `IR[1..3]` are not negative. -/
def IrNonNegative (s : State) : Prop := 0 ≤ s.ir.x.toInt ∧ 0 ≤ s.ir.y.toInt ∧ 0 ≤ s.ir.z.toInt

/-- What `lm` = 1 clamps is not negative in its register (40_primitives R87). -/
theorem regs16_irInts_nonneg (sf : Bool) (c : Vec3 Int) :
    0 ≤ (regs16 (irInts sf true c)).x.toInt ∧ 0 ≤ (regs16 (irInts sf true c)).y.toInt ∧
      0 ≤ (regs16 (irInts sf true c)).z.toInt := by
  have clamped := fun v => (toInt_ofInt16_sat_mem 0 32767 (by decide) (by decide) (by decide) v).1
  exact ⟨clamped _, clamped _, clamped _⟩

theorem irNonNegative_setTriple (c : Vec3 Int) (s : State) : IrNonNegative (setTriple c true s) := by
  rw [setTriple_eq]
  exact regs16_irInts_nonneg _ c

theorem irNonNegative_colourResult (s : State) (c : Vec3 Int) (g : FlagSet) :
    IrNonNegative (s.colourResult c true g) := regs16_irInts_nonneg _ c

theorem irNonNegative_rtpsBody (n : Vertex) (s : State) : IrNonNegative (rtpsBody n true s) := by
  rw [rtpsBody_eq, rtpsTransform_eq]
  exact regs16_irInts_nonneg _ (transformSums s n)

theorem irNonNegative_mvmvaBody (mx : MatrixSel) (vx : VectorSel) (tx : TranslationSel) (s : State) :
    IrNonNegative (mvmvaBody mx vx tx true s) := by
  by_cases hfc : tx = .fc
  · rw [hfc, mvmvaBody_fc]
    exact irNonNegative_setTriple ..
  · rw [mvmvaBody_eq _ _ _ hfc]
    exact irNonNegative_setTriple ..

/-- Every command that writes `IR[1..3]` ends by writing them clamped, so with `lm` = 1 they are not negative. -/
theorem irNonNegative_commandBody {i : Instr} (hw : writesIr i = true) (hl : lmOf i = true) (s : State) :
    IrNonNegative (commandBody i s) := by
  cases i with
  | nclip | avsz3 | avsz4 => cases hw
  | rtps | rtpt => cases hl; exact irNonNegative_rtpsBody ..
  | op | sqr => cases hl; exact irNonNegative_setTriple ..
  | mvmva => cases hl; exact irNonNegative_mvmvaBody ..
  | ncs | nct => cases hl; rw [commandBody, ncsBody_eq]; exact irNonNegative_colourResult ..
  | nccs | ncct => cases hl; rw [commandBody, nccsBody_eq]; exact irNonNegative_colourResult ..
  | ncds | ncdt => cases hl; rw [commandBody, ncdsBody_eq]; exact irNonNegative_colourResult ..
  | cc => cases hl; rw [commandBody, ccBody_eq]; exact irNonNegative_colourResult ..
  | cdp => cases hl; rw [commandBody, cdpBody_eq]; exact irNonNegative_colourResult ..
  | dpcs | dpct =>
    cases hl; rw [commandBody, dpcsBody_eq, pushColor_interpolate]; exact irNonNegative_colourResult ..
  | dcpl => cases hl; rw [commandBody, dcplBody, pushColor_interpolate]; exact irNonNegative_colourResult ..
  | intpl => cases hl; rw [commandBody, intplBody, pushColor_interpolate]; exact irNonNegative_colourResult ..
  | gpf => cases hl; rw [commandBody, gpfBody, pushColor_setTriple]; exact irNonNegative_colourResult ..
  | gpl => cases hl; rw [commandBody, gplBody, pushColor_setTriple]; exact irNonNegative_colourResult ..

/-- Settles O25, by `irNonNegative_commandBody` on the state with the command's latches. -/
theorem lowerLimitKeepsIrNonNegative : Obligations.LowerLimitKeepsIrNonNegative := fun i s hw hl =>
  ⟨_, exec_eq i s, irNonNegative_commandBody hw hl _⟩

end Sys2Proof.Machine

/-! ### 20_memory: what the register port answers -/

namespace Sys2Proof.Machine

open Sys2Proof.Safety

theorem applyTransaction_regRead_indexOf (r : RegName) (s : State) :
    applyTransaction (.regRead (indexOf r)) s = .next (s.withReplies (.word (readReg r s) :: s.replies)) := by
  simp only [applyTransaction, execRegRead, regOfIndex_indexOf, answer]

/-- Settles O8: the read adds its word to the results, and no register word reads the results or the queue. -/
theorem regReadGivesTheWordAndChangesNothing : Obligations.RegReadGivesTheWordAndChangesNothing := by
  intro r s rest
  have hread : step (s.withPending (.regRead (indexOf r) :: rest)) =
      .next ((s.withPending rest).withReplies (.word (readReg r s) :: s.replies)) := by
    rw [step_of_pending_cons (State.withPending_pending ..), applyTransaction_regRead_indexOf,
      State.withPending_withPending, readReg_withPending, State.withPending_replies]
  have hsame : readReg r ((s.withPending rest).withReplies (.word (readReg r s) :: s.replies)) = readReg r s := by
    rw [readReg_withReplies, readReg_withPending]
  exact ⟨hread, hsame⟩

/-! ### Reserved indices -/

theorem mem_reservedIndices_iff (idx : BitVec 6) : idx ∈ reservedIndices ↔ idx.toNat ∈ [15, 23, 28, 29, 30, 31] :=
  (List.mem_map_of_injective (BitVec.toNat_injective (n := 6))).symm

theorem applyTransaction_regRead_reserved {idx : BitVec 6} (h : idx ∈ reservedIndices) (s : State) :
    applyTransaction (.regRead idx) s = .refused (.reservedRegister idx) := by
  simp only [applyTransaction, execRegRead, (regOfIndex_eq_none_iff idx).2 h]

theorem applyTransaction_regWrite_reserved {idx : BitVec 6} (h : idx ∈ reservedIndices) (w : Word) (s : State) :
    applyTransaction (.regWrite idx w) s = .refused (.reservedRegister idx) := by
  simp only [applyTransaction, execRegWrite, (regOfIndex_eq_none_iff idx).2 h]

/-- After a refused access to the port the host goes on with the queue's rest and no result (60_exceptions R166). -/
theorem afterRefusal_regRead (idx : BitVec 6) (s : State) (rest : List Transaction) :
    afterRefusal (s.withPending (.regRead idx :: rest)) = s.withPending rest := rfl

theorem afterRefusal_regWrite (idx : BitVec 6) (w : Word) (s : State) (rest : List Transaction) :
    afterRefusal (s.withPending (.regWrite idx w :: rest)) = s.withPending rest := rfl

/-- Settles O12: both accesses look their index up, and the lookup fails for the reserved indices alone
(`regOfIndex_eq_none_iff`). -/
theorem reservedIndexIsRefusedWithoutEffect : Obligations.ReservedIndexIsRefusedWithoutEffect := by
  intro idx w s rest
  rw [← mem_reservedIndices_iff]
  refine ⟨fun h => ⟨?_, ?_, afterRefusal_regRead .., afterRefusal_regWrite ..⟩, fun h => ?_⟩
  · rw [step_of_pending_cons (State.withPending_pending ..), applyTransaction_regRead_reserved h]
  · rw [step_of_pending_cons (State.withPending_pending ..), applyTransaction_regWrite_reserved h]
  · obtain ⟨r, hr⟩ := regOfIndex_of_not_reserved h
    exact ⟨r, indexOf_of_regOfIndex hr, hr⟩

/-! ### What a read gives after a write of the same word -/

/-- The words that are one signed 16-bit register (20_memory R56). -/
def signedHalfWords : List RegName :=
  [.VZ0, .VZ1, .VZ2, .IR0, .IR1, .IR2, .IR3, .RT33, .L33, .LB3, .DQA, .ZSF3, .ZSF4]

/-- The words that are one unsigned 16-bit register (20_memory R56). -/
def unsignedHalfWords : List RegName := [.OTZ, .SZ0, .SZ1, .SZ2, .SZ3, .H]

theorem lowHalf_eq_setWidth (w : Word) : lowHalf w = w.setWidth 16 :=
  (BitVec.setWidth_eq_extractLsb' (by decide)).symm

/-- `ERR` of the bits that a write of FLAG stores, from the written word (10_state R34). -/
theorem errBit_flagOfWord (w : Word) : errBit (flagOfWord w) = true ↔ w &&& 0x7F87E000 ≠ 0 := by
  have hstored : ∀ k ∈ errPositions, 12 ≤ k ∧ k < 31 := by decide
  rw [errBit_iff, and_ne_zero_iff]
  refine exists_congr fun k => ?_
  rw [getLsbD_errMask]
  refine and_congr_right fun hk => ?_
  obtain ⟨hle, hlt⟩ := hstored k hk
  rw [getLsbD_flagWord, if_neg (by omega), if_pos hlt, flagOfWord, BitVec.getLsbD_extractLsb',
    decide_eq_true (by omega), Bool.true_and, Nat.add_sub_cancel' hle]

/-- What FLAG reads after a write of `w`: bits 30:12 of `w` and `ERR` of them (20_memory R54, R58). -/
theorem flagWord_flagOfWord (w : Word) :
    flagWord (flagOfWord w) = (w &&& 0x7FFFF000) ||| (if w &&& 0x7F87E000 = 0 then 0 else 0x80000000) := by
  have hstored : ∀ k < 32, (0x7FFFF000 : Word).getLsbD k = decide (12 ≤ k ∧ k < 31) := by decide
  have htop : ∀ k < 32, (0x80000000 : Word).getLsbD k = decide (k = 31) := by decide
  rw [← ite_not, ← if_congr (errBit_flagOfWord w) rfl rfl]
  apply BitVec.eq_of_getLsbD_eq
  intro k hk
  rw [getLsbD_flagWord, BitVec.getLsbD_or, BitVec.getLsbD_and, hstored k hk, apply_ite (BitVec.getLsbD · k), htop k hk]
  by_cases hlow : k < 12
  · simp [hlow, show ¬ 12 ≤ k by omega, show k ≠ 31 by omega]
  · by_cases hmid : k < 31
    · simp [hlow, hmid, show k ≠ 31 by omega, show 12 ≤ k by omega, flagOfWord, show k - 12 < 19 by omega]
    · simp [show k = 31 by omega]

theorem readReg_writeReg_signedHalf {r : RegName} (h : r ∈ signedHalfWords) (w : Word) (s : State) :
    readReg r (writeReg r w s) = signedWord (lowHalf w) := by
  fin_cases h <;> rfl

theorem readReg_writeReg_unsignedHalf {r : RegName} (h : r ∈ unsignedHalfWords) (w : Word) (s : State) :
    readReg r (writeReg r w s) = unsignedWord (lowHalf w) := by
  fin_cases h <;> rfl

/-- Every other word keeps all 32 bits: as two halves, as the bytes of a colour, or as one register. -/
theorem readReg_writeReg_full {r : RegName} (hs : r ∉ signedHalfWords) (hu : r ∉ unsignedHalfWords) (hf : r ≠ .FLAG)
    (w : Word) (s : State) : readReg r (writeReg r w s) = w := by
  cases r with
  | VXY0 | VXY1 | VXY2 | SXY0 | SXY1 | SXY2 | RT11RT12 | RT13RT21 | RT22RT23 | RT31RT32 | L11L12 | L13L21 | L22L23
  | L31L32 | LR1LR2 | LR3LG1 | LG2LG3 | LB1LB2 => exact pairWord_halves w
  | RGBC | RGB0 | RGB1 | RGB2 => exact colorWord_colorOfWord w
  | MAC0 | MAC1 | MAC2 | MAC3 | TRX | TRY | TRZ | RBK | GBK | BBK | RFC | GFC | BFC | OFX | OFY | DQB => rfl
  | VZ0 | VZ1 | VZ2 | IR0 | IR1 | IR2 | IR3 | RT33 | L33 | LB3 | DQA | ZSF3 | ZSF4 => exact absurd (by decide) hs
  | OTZ | SZ0 | SZ1 | SZ2 | SZ3 | H => exact absurd (by decide) hu
  | FLAG => exact absurd rfl hf

/-- Settles O9: the step is the write itself, and the four kinds of register word each read it back their own way. -/
theorem regWriteThenReadGivesTheTruncatedWord : Obligations.RegWriteThenReadGivesTheTruncatedWord := by
  intro r w s rest
  refine ⟨writeReg r w (s.withPending rest), ?_, ?_⟩
  · rw [step_of_pending_cons (State.withPending_pending ..), applyTransaction_regWrite_indexOf,
      State.withPending_withPending]
  · rw [← lowHalf_eq_setWidth]
    split
    · next hs => exact readReg_writeReg_signedHalf hs w _
    · next hs =>
      split
      · next hu => exact readReg_writeReg_unsignedHalf hu w _
      · next hu =>
        by_cases hf : r = .FLAG
        · rw [if_pos hf, hf]
          exact flagWord_flagOfWord w
        · rw [if_neg hf]
          exact readReg_writeReg_full hs hu hf w _

/-! ### The register words hold the register file -/

/-- The word that packs a row's contents (20_memory R53, R55). -/
def packedWord : Contents → Word
  | .signed16 x => signedWord x
  | .unsigned16 x => unsignedWord x
  | .pair lo hi => pairWord lo hi
  | .colour c => colorWord c
  | .whole x => x

/-- Each field stands at its place in the packed word. -/
theorem holds_packedWord (c : Contents) : c.holds (packedWord c) := by
  cases c with
  | signed16 x => exact signedWord_toInt x
  | unsigned16 x => exact unsignedWord_toNat x
  | pair lo hi => exact pairWord_toNat lo hi
  | colour c => exact colorWord_toNat c
  | whole x => rfl

/-- The port reads at each index of the map the word that packs its row. -/
theorem read_portMap (s : State) :
    (portMap s).map (fun p => (regOfIndex p.1).map (readReg · s)) = (portMap s).map (fun p => some (packedWord p.2)) :=
  rfl

theorem exists_readReg_of_mem_portMap {s : State} {p : BitVec 6 × Contents} (hp : p ∈ portMap s) :
    ∃ r, regOfIndex p.1 = some r ∧ readReg r s = packedWord p.2 :=
  Option.map_eq_some_iff.1 (List.map_inj_left.1 (read_portMap s) p hp)

/-- The vector whose words are `xy` and `z` (20_memory R56). -/
def vectorOfWords (xy z : Word) : Vec3 (BitVec 16) := ⟨lowHalf xy, highHalf xy, lowHalf z⟩

/-- The matrix whose five words are given, in index order (20_memory R56). -/
def matrixOfWords (a b c d e : Word) : Mat3 (BitVec 16) :=
  ⟨⟨lowHalf a, highHalf a, lowHalf b⟩, ⟨highHalf b, lowHalf c, highHalf c⟩, ⟨lowHalf d, highHalf d, lowHalf e⟩⟩

/-- The screen point whose word is given (20_memory R56). -/
def screenXYOfWord (w : Word) : ScreenXY := ⟨lowHalf w, highHalf w⟩

/-- `s` with the register file that holds the given words: packing undone row by row (20_memory R56). -/
def State.withWords (s : State) (word : RegName → Word) : State :=
  { s with
    v := ⟨vectorOfWords (word .VXY0) (word .VZ0), vectorOfWords (word .VXY1) (word .VZ1),
      vectorOfWords (word .VXY2) (word .VZ2)⟩
    rgbc := colorOfWord (word .RGBC)
    otz := lowHalf (word .OTZ)
    ir0 := lowHalf (word .IR0)
    ir := ⟨lowHalf (word .IR1), lowHalf (word .IR2), lowHalf (word .IR3)⟩
    sxy := ⟨screenXYOfWord (word .SXY0), screenXYOfWord (word .SXY1), screenXYOfWord (word .SXY2)⟩
    sz := ⟨lowHalf (word .SZ0), lowHalf (word .SZ1), lowHalf (word .SZ2), lowHalf (word .SZ3)⟩
    rgb := ⟨colorOfWord (word .RGB0), colorOfWord (word .RGB1), colorOfWord (word .RGB2)⟩
    mac0 := word .MAC0
    mac := ⟨word .MAC1, word .MAC2, word .MAC3⟩
    ctrl :=
      { rt := matrixOfWords (word .RT11RT12) (word .RT13RT21) (word .RT22RT23) (word .RT31RT32) (word .RT33)
        tr := ⟨word .TRX, word .TRY, word .TRZ⟩
        llm := matrixOfWords (word .L11L12) (word .L13L21) (word .L22L23) (word .L31L32) (word .L33)
        bk := ⟨word .RBK, word .GBK, word .BBK⟩
        lcm := matrixOfWords (word .LR1LR2) (word .LR3LG1) (word .LG2LG3) (word .LB1LB2) (word .LB3)
        fc := ⟨word .RFC, word .GFC, word .BFC⟩
        ofx := word .OFX
        ofy := word .OFY
        h := lowHalf (word .H)
        dqa := lowHalf (word .DQA)
        dqb := word .DQB
        zsf3 := lowHalf (word .ZSF3)
        zsf4 := lowHalf (word .ZSF4) }
    flag := flagOfWord (word .FLAG) }

/-- The words of a state hold its whole register file. -/
theorem State.withWords_readReg (s : State) : s.withWords (readReg · s) = s := by
  simp only [State.withWords, vectorOfWords, matrixOfWords, screenXYOfWord, readReg, lowHalf_pairWord,
    highHalf_pairWord, lowHalf_signedWord, lowHalf_unsignedWord, colorOfWord_colorWord, flagOfWord_flagWord]

/-- Settles O11: each row by `exists_readReg_of_mem_portMap`; two states with the same words both hold the register
file that `State.withWords` makes of them. -/
theorem registerWordsDetermineTheRegisterFile : Obligations.RegisterWordsDetermineTheRegisterFile := by
  refine ⟨fun s p hp => ?_, ⟨rfl, rfl⟩, fun s t h => ?_⟩
  · obtain ⟨r, hr, hword⟩ := exists_readReg_of_mem_portMap hp
    exact ⟨r, indexOf_of_regOfIndex hr, hr, hword ▸ holds_packedWord p.2⟩
  · have hs := s.withWords_readReg
    have ht := t.withWords_readReg
    rw [funext h] at hs
    generalize (readReg · t) = words at hs ht
    rw [← hs, ← ht]
    exact ⟨rfl, rfl, rfl, rfl, rfl, rfl, rfl, rfl, rfl, rfl, rfl, rfl⟩

end Sys2Proof.Machine

/-! ### 30_encoding: the fields of a command word -/

namespace Sys2Proof.Machine

open Sys2Proof.Safety

/-- Two words agree under a mask exactly when they agree on every bit of the mask. -/
theorem and_eq_and_iff {n : Nat} (x y m : BitVec n) :
    x &&& m = y &&& m ↔ ∀ k, m.getLsbD k = true → x.getLsbD k = y.getLsbD k := by
  constructor
  · intro h k hm
    simpa [hm] using congrArg (BitVec.getLsbD · k) h
  · intro h
    refine BitVec.eq_of_getLsbD_eq fun k _ => ?_
    rw [BitVec.getLsbD_and, BitVec.getLsbD_and]
    cases hm : m.getLsbD k with
    | false => simp only [Bool.and_false]
    | true => rw [h k hm]

/-- Two words have a field in common exactly when they agree on its bits. -/
theorem extractLsb'_eq_iff {n : Nat} (x y : BitVec n) (start len : Nat) :
    x.extractLsb' start len = y.extractLsb' start len ↔
      ∀ k, start ≤ k ∧ k < start + len → x.getLsbD k = y.getLsbD k := by
  constructor
  · rintro h k ⟨hle, hlt⟩
    have hk := congrArg (BitVec.getLsbD · (k - start)) h
    simpa [show k - start < len by omega, show start + (k - start) = k by omega] using hk
  · intro h
    refine BitVec.eq_of_getLsbD_eq fun j hj => ?_
    simp only [BitVec.getLsbD_extractLsb', hj, decide_true, Bool.true_and]
    exact h _ ⟨by omega, by omega⟩

/-- The mask 0x0008043F is `fn`, `lm` and `sf` (30_encoding R65). -/
theorem getLsbD_commonMask (k : Nat) :
    (0x0008043F : Word).getLsbD k = true ↔ (0 ≤ k ∧ k < 0 + 6) ∨ k = 10 ∨ k = 19 := by
  by_cases hk : k < 32
  · revert k; decide
  · rw [BitVec.getLsbD_of_ge _ _ (by omega)]
    exact ⟨fun h => absurd h Bool.false_ne_true, by omega⟩

/-- The mask 0x000FE43F is `fn`, `lm`, `sf` and the three selectors (30_encoding R65). -/
theorem getLsbD_selectorMask (k : Nat) :
    (0x000FE43F : Word).getLsbD k = true ↔
      (0 ≤ k ∧ k < 0 + 6) ∨ k = 10 ∨ k = 19 ∨ (13 ≤ k ∧ k < 13 + 6) := by
  by_cases hk : k < 32
  · revert k; decide
  · rw [BitVec.getLsbD_of_ge _ _ (by omega)]
    exact ⟨fun h => absurd h Bool.false_ne_true, by omega⟩

theorem and_commonMask_eq_iff (w w' : Word) :
    w &&& 0x0008043F = w' &&& 0x0008043F ↔
      fnField w = fnField w' ∧ lmField w = lmField w' ∧ sfField w = sfField w' := by
  simp only [and_eq_and_iff, getLsbD_commonMask, or_imp, forall_and, forall_eq, fnField, extractLsb'_eq_iff, lmField,
    sfField]

theorem and_selectorMask_eq_iff (w w' : Word) :
    w &&& 0x000FE43F = w' &&& 0x000FE43F ↔
      fnField w = fnField w' ∧ lmField w = lmField w' ∧ sfField w = sfField w' ∧
        w.extractLsb' 13 6 = w'.extractLsb' 13 6 := by
  simp only [and_eq_and_iff, getLsbD_selectorMask, or_imp, forall_and, forall_eq, fnField, extractLsb'_eq_iff, lmField,
    sfField]

/-- The decoder reads the selectors for the function number of `mvmva` alone (30_encoding R69). -/
theorem significantBits_eq (i : Instr) :
    significantBits i = if fnOf i = 0x12#6 then 0x000FE43F else 0x0008043F := by
  cases i <;> rfl

/-- Two words agree on the bits the decoder reads for a command exactly when they have its fields in common. -/
theorem and_significantBits_eq_iff (i : Instr) (w w' : Word) :
    w &&& significantBits i = w' &&& significantBits i ↔
      fnField w = fnField w' ∧ lmField w = lmField w' ∧ sfField w = sfField w' ∧
        (fnOf i = 0x12#6 → w.extractLsb' 13 6 = w'.extractLsb' 13 6) := by
  rw [significantBits_eq]
  split
  · next hfn => simp only [and_selectorMask_eq_iff, hfn, true_implies]
  · next hfn => simp only [and_commonMask_eq_iff, hfn, false_implies, and_true]

/-! ### The selectors of `mvmva` (30_encoding R69) -/

@[simp] theorem matrixSelOf_mxBits (mx : MatrixSel) : matrixSelOf (mxBits mx) = mx := by cases mx <;> rfl

@[simp] theorem vectorSelOf_vxBits (vx : VectorSel) : vectorSelOf (vxBits vx) = vx := by cases vx <;> rfl

@[simp] theorem translationSelOf_txBits (tx : TranslationSel) : translationSelOf (txBits tx) = tx := by
  cases tx <;> rfl

@[simp] theorem mxBits_matrixSelOf (b : BitVec 2) : mxBits (matrixSelOf b) = b := by revert b; decide

@[simp] theorem vxBits_vectorSelOf (b : BitVec 2) : vxBits (vectorSelOf b) = b := by revert b; decide

@[simp] theorem txBits_translationSelOf (b : BitVec 2) : txBits (translationSelOf b) = b := by revert b; decide

/-- Bits 18:13 of a word are `mx`, `vx`, `tx` (30_encoding R65). -/
theorem extractLsb'_selectors (w : Word) : w.extractLsb' 13 6 = mxField w ++ vxField w ++ txField w := by
  rw [mxField, vxField, txField, BitVec.extractLsb'_append_extractLsb'_eq_extractLsb' (by rfl),
    BitVec.extractLsb'_append_extractLsb'_eq_extractLsb' (by rfl)]

theorem bitVec_append_inj {n m : Nat} {a a' : BitVec n} {b b' : BitVec m} (h : a ++ b = a' ++ b') : a = a' ∧ b = b' := by
  have hl := congrArg (BitVec.extractLsb' m n) h
  have hr := congrArg (BitVec.extractLsb' 0 m) h
  rw [BitVec.extractLsb'_append_eq_left, BitVec.extractLsb'_append_eq_left] at hl
  rw [BitVec.extractLsb'_append_eq_right, BitVec.extractLsb'_append_eq_right] at hr
  exact ⟨hl, hr⟩

/-- The selector fields of a word with the bits 18:13 of an `mvmva` name that command's operands. -/
theorem selectors_of_bits {w : Word} {mx : MatrixSel} {vx : VectorSel} {tx : TranslationSel}
    (h : w.extractLsb' 13 6 = mxBits mx ++ vxBits vx ++ txBits tx) :
    matrixSelOf (mxField w) = mx ∧ vectorSelOf (vxField w) = vx ∧ translationSelOf (txField w) = tx := by
  rw [extractLsb'_selectors] at h
  obtain ⟨hmv, htx⟩ := bitVec_append_inj h
  obtain ⟨hmx, hvx⟩ := bitVec_append_inj hmv
  simp only [hmx, hvx, htx, matrixSelOf_mxBits, vectorSelOf_vxBits, translationSelOf_txBits, and_self]

/-! ### Decoding and encoding -/

/-- The operands of a decoded command are the word's own fields (30_encoding R68, R69). -/
theorem decode_ok_operands {w : Word} {i : Instr} (h : decode w = .ok i) :
    lmField w = lmOf i ∧ sfField w = sfOf i ∧ (fnOf i = 0x12#6 → w.extractLsb' 13 6 = selectorBits i) := by
  unfold decode at h
  split at h
  case h_23 => cases h
  all_goals
    injection h with h
    subst h
    refine ⟨rfl, rfl, fun hfn => ?_⟩
  case h_6 =>
    simp only [selectorBits, mxBits_matrixSelOf, vxBits_vectorSelOf, txBits_translationSelOf, extractLsb'_selectors]
  all_goals exact absurd hfn (by simp [fnOf])

/-- A word with a command's fields decodes to that command. -/
theorem decode_of_fields {w : Word} {i : Instr} (hfn : fnField w = fnOf i) (hlm : lmField w = lmOf i)
    (hsf : sfField w = sfOf i) (hsel : fnOf i = 0x12#6 → w.extractLsb' 13 6 = selectorBits i) :
    decode w = .ok i := by
  unfold decode
  rw [hfn, hlm, hsf]
  cases i with
  | mvmva sf lm mx vx tx =>
    obtain ⟨hmx, hvx, htx⟩ := selectors_of_bits (hsel rfl)
    rw [hmx, hvx, htx]
    rfl
  | _ => rfl

/-- A word decodes to a command exactly when its fields are the command's own (30_encoding R67 to R70). -/
theorem decode_eq_ok_iff (w : Word) (i : Instr) :
    decode w = .ok i ↔
      fnField w = fnOf i ∧ lmField w = lmOf i ∧ sfField w = sfOf i ∧
        (fnOf i = 0x12#6 → w.extractLsb' 13 6 = selectorBits i) :=
  ⟨fun h => ⟨decode_ok_fnField h, decode_ok_operands h⟩, fun ⟨hfn, hlm, hsf, hsel⟩ => decode_of_fields hfn hlm hsf hsel⟩

/-- A word decodes to a command exactly when it agrees with the command's encoding on the decoded bits: both say that
the word's fields are the command's, since those of the encoding are (`Encoding.fields`). -/
theorem decode_eq_ok_iff_encode {i : Instr} (h : i.wellFormed = true) (w : Word) :
    decode w = .ok i ↔ w &&& significantBits i = encode i &&& significantBits i := by
  obtain ⟨-, hfn, hsf, hlm, hsel⟩ := Laws.Encoding.fields i h
  rw [decode_eq_ok_iff, and_significantBits_eq_iff, hfn, hsf, hlm, hsel]

/-- Settles O1: an encoding agrees with itself, so the second half gives the first. -/
theorem decodeInvertsEncodeOnDecodedBits : Obligations.DecodeInvertsEncodeOnDecodedBits :=
  fun _ h => ⟨(decode_eq_ok_iff_encode h _).2 rfl, decode_eq_ok_iff_encode h⟩

/-- Settles O3: what a decoded word's fields are (`decode_eq_ok_iff`), and what a rejected word's number is
(`decode_error`). -/
theorem everyWordIsACommandOrUnassigned : Obligations.EveryWordIsACommandOrUnassigned := by
  intro w
  cases hd : decode w with
  | ok i =>
    obtain ⟨hfn, hlm, hsf, -⟩ := (decode_eq_ok_iff w i).1 hd
    have hmem : fnField w ∈ assignedFunctions := hfn ▸ fnOf_mem_assignedFunctions i
    exact .inl ⟨i, rfl, hfn.symm, hsf.symm, hlm.symm, hmem⟩
  | error e =>
    obtain ⟨rfl, hfn⟩ := decode_error hd
    refine .inr ⟨rfl, ?_⟩
    unfold fnField at hfn
    generalize w.extractLsb' 0 6 = fn at hfn ⊢
    revert fn
    decide

/-- Settles O2: each word's fields are those of its row. -/
theorem conventionalWordsDecode : Obligations.ConventionalWordsDecode := by
  unfold Obligations.ConventionalWordsDecode
  simp only [decode_eq_ok_iff]
  and_intros <;> decide

/-! ### The COMMAND transaction -/

/-- The decoder reads the function number, `lm`, `sf` and, for `mvmva` alone, the selectors (30_encoding R70). -/
theorem decode_congr {w w' : Word} (hfn : fnField w = fnField w') (hlm : lmField w = lmField w')
    (hsf : sfField w = sfField w') (hsel : fnField w = 0x12#6 → w.extractLsb' 13 6 = w'.extractLsb' 13 6) :
    decode w = decode w' := by
  cases hd : decode w' with
  | ok i =>
    obtain ⟨hfn', hlm', hsf', hsel'⟩ := (decode_eq_ok_iff w' i).1 hd
    have hnum : fnField w = fnOf i := hfn.trans hfn'
    exact (decode_eq_ok_iff w i).2 ⟨hnum, hlm.trans hlm', hsf.trans hsf',
      fun h => (hsel (hnum.trans h)).trans (hsel' h)⟩
  | error e =>
    obtain ⟨rfl, hun⟩ := decode_error hd
    cases hd' : decode w with
    | ok i =>
      have hnum : fnField w' = fnOf i := hfn.symm.trans (decode_ok_fnField hd')
      exact absurd (hnum ▸ fnOf_mem_assignedFunctions i) hun
    | error e => rw [(decode_error hd').1, hfn]

/-- A COMMAND's word counts only through the command it decodes to. -/
theorem applyTransaction_command_congr {w w' : Word} (h : decode w = decode w') (s : State) :
    applyTransaction (.command w) s = applyTransaction (.command w') s := by
  simp only [applyTransaction, execCommand, h]

/-- Settles O5: words that agree under either mask have the fields in common that the decoder reads. -/
theorem ignoredBitsHaveNoEffect : Obligations.IgnoredBitsHaveNoEffect := by
  refine fun w w' s => ⟨fun h => ?_, fun h hne => ?_⟩
  · obtain ⟨hfn, hlm, hsf, hsel⟩ := (and_selectorMask_eq_iff w w').1 h
    exact applyTransaction_command_congr (decode_congr hfn hlm hsf fun _ => hsel) s
  · obtain ⟨hfn, hlm, hsf⟩ := (and_commonMask_eq_iff w w').1 h
    exact applyTransaction_command_congr (decode_congr hfn hlm hsf fun h => absurd h hne) s

/-- Settles O4: the refusal by `execCommand_unassigned`; `afterRefusal` of a waiting COMMAND drops it and answers. -/
theorem unassignedFunctionIsRefusedWithoutEffect : Obligations.UnassignedFunctionIsRefusedWithoutEffect := by
  refine fun w s rest h => ⟨?_, rfl⟩
  rw [step_of_pending_cons (State.withPending_pending ..), State.withPending_withPending]
  exact execCommand_unassigned h _

/-- A legal COMMAND runs the command its word decodes to, then answers the host (30_encoding R71). -/
theorem execCommand_of_decode {w : Word} {i : Instr} (h : decode w = .ok i) (s : State) :
    execCommand w s = finishCommand (exec i s) := by
  simp only [execCommand, h]

/-- Settles O6: the step takes the COMMAND off the queue, and `execCommand_of_decode` runs its command. -/
theorem stepRunsTheDecodedCommand : Obligations.StepRunsTheDecodedCommand := by
  intro w i s t rest hd _ he
  rw [step_of_pending_cons (State.withPending_pending ..), State.withPending_withPending]
  exact (execCommand_of_decode hd _).trans (congrArg finishCommand he)

/-! ### Commands on which `sf` or `lm` has no effect (30_encoding R68) -/

theorem scaled_nonneg (sf : Bool) {v : Int} (h : 0 ≤ v) : 0 ≤ scaled sf v := by
  unfold scaled; split <;> omega

/-- The lower limits of both values of `lm` are below a sum that is not negative. -/
theorem irLow_le_scaled (sf lm : Bool) {v : Int} (h : 0 ≤ v) : irLow lm ≤ scaled sf v := by
  have := scaled_nonneg sf h
  cases lm <;> simp only [irLow, Bool.false_eq_true, if_false, if_true] <;> omega

theorem irInt_of_nonneg (sf lm : Bool) {v : Int} (h : 0 ≤ v) : irInt sf lm v = min 32767 (scaled sf v) :=
  max_eq_right (le_min (irLow_le lm) (irLow_le_scaled sf lm h))

theorem irClamped_of_nonneg (sf lm : Bool) {v : Int} (h : 0 ≤ v) :
    irClamped sf lm v = decide (scaled sf v > 32767) := by
  simp only [irClamped, (irLow_le_scaled sf lm h).not_gt, or_false]

theorem laneFlags_of_nonneg (i : Lane) (sf lm lm' : Bool) {v : Int} (h : 0 ≤ v) :
    laneFlags i sf lm v = laneFlags i sf lm' v :=
  FlagSet.ext_bits fun b => by simp only [hasBit_laneFlags, laneRaises, irClamped_of_nonneg sf _ h]

/-- A three-lane step on sums that are not negative does not depend on `lm`. -/
theorem setTriple_of_nonneg {c : Vec3 Int} (hx : 0 ≤ c.x) (hy : 0 ≤ c.y) (hz : 0 ≤ c.z) (lm lm' : Bool) (s : State) :
    setTriple c lm s = setTriple c lm' s := by
  have hir : ∀ l, irInts s.sf l c = ⟨min 32767 (scaled s.sf c.x), min 32767 (scaled s.sf c.y),
      min 32767 (scaled s.sf c.z)⟩ := fun l => by
    rw [irInts, irInt_of_nonneg _ _ hx, irInt_of_nonneg _ _ hy, irInt_of_nonneg _ _ hz]
  have hflags : tripleFlags s.sf lm c = tripleFlags s.sf lm' c := by
    rw [tripleFlags, laneFlags_of_nonneg _ _ lm lm' hx, laneFlags_of_nonneg _ _ lm lm' hy,
      laneFlags_of_nonneg _ _ lm lm' hz, tripleFlags]
  rw [setTriple_eq, setTriple_eq, hflags, hir, hir]

/-- Squares are not negative, so `sqr` clamps nothing from below (45_general R155). -/
theorem sqrBody_lm (lm lm' : Bool) (s : State) : sqrBody lm s = sqrBody lm' s :=
  setTriple_of_nonneg (mul_self_nonneg _) (mul_self_nonneg _) (mul_self_nonneg _) lm lm' s

/-- A three-lane step reads of the latches `SF` alone, and writes neither. -/
theorem setTriple_withLatches (c : Vec3 Int) (lm a b b' : Bool) (s : State) :
    setTriple c lm (s.withLatches a b') = (setTriple c lm (s.withLatches a b)).withLatches a b' := by
  simp [setTriple_eq]

/-- `sqr` reads of the latches `SF` alone, and its own `lm` has no effect (30_encoding R68, 45_general R155). -/
theorem sqrBody_withLatches (a b b' : Bool) (s : State) :
    sqrBody b' (s.withLatches a b') = (sqrBody b (s.withLatches a b)).withLatches a b' := by
  rw [sqrBody_lm b' b]
  exact setTriple_withLatches ..

theorem nclipBody_withLatches (s : State) (a b a' b' : Bool) :
    nclipBody (s.withLatches a' b') = (nclipBody (s.withLatches a b)).withLatches a' b' := by
  simp [nclipBody, setMac0_eq]

theorem averageZ_withLatches (v : Int) (s : State) (a b a' b' : Bool) :
    averageZ v (s.withLatches a' b') = (averageZ v (s.withLatches a b)).withLatches a' b' := by
  simp [averageZ_eq]

theorem avsz3Body_withLatches (s : State) (a b a' b' : Bool) :
    avsz3Body (s.withLatches a' b') = (avsz3Body (s.withLatches a b)).withLatches a' b' :=
  averageZ_withLatches (avsz3Sum s) ..

theorem avsz4Body_withLatches (s : State) (a b a' b' : Bool) :
    avsz4Body (s.withLatches a' b') = (avsz4Body (s.withLatches a b)).withLatches a' b' :=
  averageZ_withLatches (avsz4Sum s) ..

/-- A command whose bodies for two settings of its control bits differ in the latches alone completes in states that
differ in the latches alone. -/
theorem exec_pair_of_latches {i j : Instr} {s : State}
    (h : commandBody j (s.withLatches (sfOf j) (lmOf j)) =
      (commandBody i (s.withLatches (sfOf i) (lmOf i))).withLatches (sfOf j) (lmOf j)) :
    ∃ t, exec i s = .next t ∧ exec j s = .next (t.withLatches (sfOf j) (lmOf j)) :=
  ⟨_, exec_eq i s, by rw [exec_eq j s, h]⟩

/-- Settles O43: the bodies of `nclip`, `avsz3` and `avsz4` carry the latches along unread; that of `sqr` reads `SF`,
not its own `lm` (`sqrBody_withLatches`). -/
theorem controlBitsWithoutEffect : Obligations.ControlBitsWithoutEffect := by
  intro sf lm sf' lm' s
  obtain ⟨a, ha, ha'⟩ := exec_pair_of_latches (i := .nclip sf lm) (j := .nclip sf' lm')
    (nclipBody_withLatches s sf lm sf' lm')
  obtain ⟨b, hb, hb'⟩ := exec_pair_of_latches (i := .avsz3 sf lm) (j := .avsz3 sf' lm')
    (avsz3Body_withLatches s sf lm sf' lm')
  obtain ⟨c, hc, hc'⟩ := exec_pair_of_latches (i := .avsz4 sf lm) (j := .avsz4 sf' lm')
    (avsz4Body_withLatches s sf lm sf' lm')
  obtain ⟨d, hd, hd'⟩ := exec_pair_of_latches (i := .sqr sf lm) (j := .sqr sf lm') (sqrBody_withLatches sf lm lm' s)
  exact ⟨a, b, c, d, ha, ha', hb, hb', hc, hc', hd, hd'⟩

end Sys2Proof.Machine

/-! ### 41_divider: the reciprocal and the two divides -/

namespace Sys2Proof.Machine

/-! #### The count of leading zeros (R101) -/

/-- `leadingZeros_spec` at the width of the divider's operands. -/
theorem clz16_spec (x : BitVec 16) :
    clz16 x ≤ 16 ∧ (∀ k < clz16 x, x.getLsbD (15 - k) = false) ∧
      (clz16 x < 16 → x.getLsbD (15 - clz16 x) = true) :=
  leadingZeros_spec x 16

theorem clz16_eq_16_iff (x : BitVec 16) : clz16 x = 16 ↔ x = 0 := by
  constructor
  · intro h
    refine BitVec.eq_of_getLsbD_eq fun i hi => ?_
    have hbit := (clz16_spec x).2.1 (15 - i) (by omega)
    rw [show 15 - (15 - i) = i by omega] at hbit
    simpa using hbit
  · rintro rfl
    decide

theorem clz16_le_15 {x : BitVec 16} (h : x ≠ 0) : clz16 x ≤ 15 := by
  have hle := (clz16_spec x).1
  have hne := mt (clz16_eq_16_iff x).1 h
  omega

theorem getLsbD_clz16 {x : BitVec 16} (h : x ≠ 0) : x.getLsbD (15 - clz16 x) = true :=
  (clz16_spec x).2.2 (Nat.lt_succ_of_le (clz16_le_15 h))

/-- Shifting out the leading zeros brings the top bit to bit 15. -/
theorem normalised_bounds {x : BitVec 16} (h : x ≠ 0) :
    0x8000 ≤ x.toNat * 2 ^ clz16 x ∧ x.toNat * 2 ^ clz16 x ≤ 0xffff := by
  have hz := clz16_le_15 h
  have hlow : 2 ^ (15 - clz16 x) ≤ x.toNat := Nat.ge_two_pow_of_testBit (getLsbD_clz16 h)
  have hhigh : x.toNat < 2 ^ (16 - clz16 x) := by
    refine Nat.lt_pow_two_of_testBit _ fun i hi => ?_
    by_cases h16 : i < 16
    · have hbit := (clz16_spec x).2.1 (15 - i) (by omega)
      rwa [show 15 - (15 - i) = i by omega] at hbit
    · exact BitVec.getLsbD_of_ge x i (by omega)
  constructor
  · calc 0x8000 = 2 ^ (15 - clz16 x) * 2 ^ clz16 x := by rw [← pow_add, Nat.sub_add_cancel hz]; rfl
      _ ≤ _ := Nat.mul_le_mul_right _ hlow
  · refine Nat.le_of_lt_succ ?_
    calc x.toNat * 2 ^ clz16 x < 2 ^ (16 - clz16 x) * 2 ^ clz16 x :=
          Nat.mul_lt_mul_of_pos_right hhigh (by positivity)
      _ = 0x10000 := by rw [← pow_add, Nat.sub_add_cancel (by omega)]; rfl

/-! #### The two overflow exits (R104) -/

theorem divideUNR_overflow {lhs rhs : BitVec 16} (h : 2 * rhs.toNat ≤ lhs.toNat) :
    divideUNR lhs rhs = divideOverflow := by
  rw [divideUNR_eq, if_pos (.inl h)]

theorem divideUNR_ordinary {lhs rhs : BitVec 16} (h : lhs.toNat < 2 * rhs.toNat)
    (hq : quotientUNR lhs rhs ≤ 0x1ffff) : divideUNR lhs rhs = (quotientUNR lhs rhs, noFlags) := by
  rw [divideUNR_eq, if_neg (by omega)]

theorem noFlags_ne_divOvf : noFlags ≠ FlagBit.divOvf.mask := by decide

theorem divideUNR_flag_iff (lhs rhs : BitVec 16) :
    (divideUNR lhs rhs).2 = FlagBit.divOvf.mask ↔
      2 * rhs.toNat ≤ lhs.toNat ∨ quotientUNR lhs rhs > 0x1ffff := by
  rw [divideUNR_eq]
  split
  · next h => exact iff_of_true rfl h
  · next h => exact iff_of_false noFlags_ne_divOvf h

/-- The quotient before the clamp grows with the dividend: the reciprocal depends on the divisor alone. -/
theorem quotientUNR_mono {a b : BitVec 16} (rhs : BitVec 16) (h : a.toNat ≤ b.toNat) :
    quotientUNR a rhs ≤ quotientUNR b rhs := by
  unfold quotientUNR
  gcongr

/-- A dividend that overflows is followed by overflowing dividends only. -/
theorem divideUNR_flag_mono {a b : BitVec 16} (rhs : BitVec 16) (h : a.toNat ≤ b.toNat)
    (ha : (divideUNR a rhs).2 = FlagBit.divOvf.mask) : (divideUNR b rhs).2 = FlagBit.divOvf.mask := by
  have hq := quotientUNR_mono rhs h
  rw [divideUNR_flag_iff] at ha ⊢
  omega

theorem divideUNR_mono {a b : BitVec 16} (rhs : BitVec 16) (h : a.toNat ≤ b.toNat) :
    (divideUNR a rhs).1 ≤ (divideUNR b rhs).1 := by
  by_cases hb : 2 * rhs.toNat ≤ b.toNat ∨ quotientUNR b rhs > 0x1ffff
  · rw [divideUNR_eq b, if_pos hb]
    exact divideUNR_le a rhs
  · have hq := quotientUNR_mono rhs h
    rw [divideUNR_ordinary (lhs := a) (by omega) (by omega), divideUNR_ordinary (lhs := b) (by omega) (by omega)]
    exact hq

/-! #### One refinement step on an estimate of the reciprocal (R103) -/

/-- The refinement step of `recipUNR` on any estimate `u` of the reciprocal of `d`. -/
def refineStep (d u : Nat) : Nat := (0x80 + (0x2000080 - d * u) / 256 * u) / 256

/-- The table's estimate on segment `i` of the divisors. -/
def estimate (i : Nat) : Nat := unr i + 0x101

/-- The segment of a divisor: its index into the table. -/
def segmentOf (d : Nat) : Nat := (d - 0x7FC0) / 128

theorem recipUNR_eq_refineStep (d : Nat) : recipUNR d = refineStep d (estimate (segmentOf d)) := rfl

theorem estimate_le (i : Nat) : estimate i ≤ 512 := by
  have := (unrTable.getD i 0).isLt
  unfold estimate unr
  omega

theorem segmentOf_lt {d : Nat} (h : d ≤ 0xffff) : segmentOf d < 257 := by
  unfold segmentOf
  omega

/-- A segment is 128 divisors wide. -/
theorem segmentOf_bounds {d : Nat} (h : 0x8000 ≤ d) :
    128 * segmentOf d + 0x7FC0 ≤ d ∧ d ≤ 128 * segmentOf d + 0x803F := by
  unfold segmentOf
  omega

theorem refineStep_anti {d e : Nat} (u : Nat) (h : d ≤ e) : refineStep e u ≤ refineStep d u := by
  unfold refineStep
  gcongr

/-- Both roundings are down, so the product of divisor and reciprocal is at most that of the exact step. -/
theorem mul_refineStep_le {d u : Nat} : 65536 * (d * refineStep d u) ≤ 32768 * d + d * u * (0x2000080 - d * u) := by
  unfold refineStep
  generalize hs : 0x2000080 - d * u = s
  have ht : 256 * (s / 256) ≤ s := Nat.mul_div_le s 256
  have hr : 256 * ((0x80 + s / 256 * u) / 256) ≤ 0x80 + s / 256 * u := Nat.mul_div_le _ 256
  calc 65536 * (d * ((0x80 + s / 256 * u) / 256))
      = 256 * d * (256 * ((0x80 + s / 256 * u) / 256)) := by ring
    _ ≤ 256 * d * (0x80 + s / 256 * u) := Nat.mul_le_mul_left _ hr
    _ = 32768 * d + d * u * (256 * (s / 256)) := by ring
    _ ≤ 32768 * d + d * u * s := by gcongr

/-- Each rounding loses at most 255 / 256. -/
theorem le_mul_refineStep {d u : Nat} :
    d * u * (0x2000080 - d * u) ≤ 65536 * (d * refineStep d u) + 32512 * d + 255 * (d * u) := by
  unfold refineStep
  generalize hs : 0x2000080 - d * u = s
  have ht : s ≤ 256 * (s / 256) + 255 := by omega
  have hr : 0x80 + s / 256 * u ≤ 256 * ((0x80 + s / 256 * u) / 256) + 255 := by omega
  calc d * u * s ≤ d * u * (256 * (s / 256) + 255) := by gcongr
    _ = 256 * d * (s / 256 * u) + 255 * (d * u) := by ring
    _ ≤ 256 * d * (256 * ((0x80 + s / 256 * u) / 256) + 127) + 255 * (d * u) := by gcongr; omega
    _ = _ := by ring

/-! #### The product of a normalised divisor and its reciprocal (R105) -/

/-- The reciprocal is an estimate from below, up to the two roundings to nearest: the exact step never passes the
top of the parabola `x * (0x2000080 - x)`. -/
theorem two_mul_mul_recipUNR_le {d : Nat} (h : d ≤ 0xffff) : 2 * (d * recipUNR d) ≤ 0x200010000 + d := by
  rw [recipUNR_eq_refineStep]
  have hx : d * estimate (segmentOf d) ≤ 0xffff * 512 := Nat.mul_le_mul h (estimate_le _)
  have htop := four_mul_le_sq_add (d * estimate (segmentOf d)) (0x2000080 - d * estimate (segmentOf d))
  rw [Nat.add_sub_cancel' (by omega)] at htop
  have hle := mul_refineStep_le (d := d) (u := estimate (segmentOf d))
  rw [mul_assoc 4] at htop
  omega

/-- A parabola open downwards takes its least value on an interval at one of the two ends. -/
theorem le_parabola {a b x A m : Nat} (hax : a ≤ x) (hxb : x ≤ b) (ha : m ≤ a * (A - a)) (hb : m ≤ b * (A - b)) :
    m ≤ x * (A - x) := by
  rcases le_total A b with hA | hA
  · rw [Nat.sub_eq_zero_of_le hA] at hb
    exact hb.trans (Nat.zero_le _)
  · zify [hA, hax.trans (hxb.trans hA), hxb.trans hA] at *
    by_cases h : (x : Int) + a ≤ A
    · have := mul_nonneg (sub_nonneg.2 hax) (sub_nonneg.2 h)
      linarith
    · have := mul_nonneg (sub_nonneg.2 hxb) (show 0 ≤ (x : Int) + b - A by omega)
      linarith

/-- The segments on which the worst case of both roundings, at the worst divisor, is not good enough for
`le_mul_recipUNR`. -/
def roughSegments : List Nat := [225, 234, 251, 253, 255, 256]

/-- On a rough segment each divisor is computed. -/
theorem le_mul_recipUNR_of_rough :
    ∀ i ∈ roughSegments, ∀ r < 128, 128 * i + 0x7FC0 + r ≤ 0xffff →
      0xFFFE8000 ≤ (128 * i + 0x7FC0 + r) * recipUNR (128 * i + 0x7FC0 + r) := by
  decide +kernel

/-- On every other segment the bound holds at both ends, the roundings at their worst (`le_mul_refineStep`). -/
theorem smooth_ends :
    ∀ i < 257, i ∉ roughSegments → ∀ d ∈ [128 * i + 0x7FC0, 128 * i + 0x803F],
      65536 * 0xFFFE8000 + 32512 * (128 * i + 0x803F) ≤ d * estimate i * (0x1FFFF81 - d * estimate i) := by
  decide +kernel

/-- The reciprocal is not too small: by the parabola on a smooth segment, divisor by divisor on a rough one. -/
theorem le_mul_recipUNR {d : Nat} (h : 0x8000 ≤ d) (h' : d ≤ 0xffff) : 0xFFFE8000 ≤ d * recipUNR d := by
  obtain ⟨hlo, hhi⟩ := segmentOf_bounds h
  by_cases hrough : segmentOf d ∈ roughSegments
  · have hd := le_mul_recipUNR_of_rough _ hrough (d - (128 * segmentOf d + 0x7FC0)) (by omega)
    rw [Nat.add_sub_cancel' hlo] at hd
    exact hd h'
  · have hends := smooth_ends _ (segmentOf_lt h') hrough
    rw [recipUNR_eq_refineStep]
    generalize segmentOf d = i at *
    have hx : d * estimate i ≤ 0xffff * 512 := Nat.mul_le_mul h' (estimate_le i)
    have hmid := le_parabola (Nat.mul_le_mul_right (estimate i) hlo) (Nat.mul_le_mul_right (estimate i) hhi)
      (hends _ (by simp)) (hends _ (by simp))
    have hle := le_mul_refineStep (d := d) (u := estimate i)
    generalize d * estimate i = x at *
    rw [show 0x2000080 - x = 0x1FFFF81 - x + 255 by omega, mul_add] at hle
    linarith

/-! #### The range of the reciprocal -/

/-- The ends of each segment, within the normalised divisors. -/
theorem refineStep_segment_ends :
    ∀ i < 257, 0x10000 ≤ refineStep (min 0xffff (128 * i + 0x803F)) (estimate i) ∧
      refineStep (max 0x8000 (128 * i + 0x7FC0)) (estimate i) ≤ 0x20000 := by
  decide +kernel

theorem recipUNR_bounds {d : Nat} (h : 0x8000 ≤ d) (h' : d ≤ 0xffff) :
    0x10000 ≤ recipUNR d ∧ recipUNR d ≤ 0x20000 := by
  obtain ⟨hlo, hhi⟩ := segmentOf_bounds h
  obtain ⟨hmin, hmax⟩ := refineStep_segment_ends _ (segmentOf_lt h')
  rw [recipUNR_eq_refineStep]
  exact ⟨hmin.trans (refineStep_anti _ (le_min h' hhi)), (refineStep_anti _ (max_le h hlo)).trans hmax⟩

/-! #### Corners of the quotient (R105, R107, R108) -/

theorem quotientUNR_zero (rhs : BitVec 16) : quotientUNR 0 rhs = 0 := by
  simp [quotientUNR]

/-- Equal operands: the product of the normalised divisor and its reciprocal, rounded to nearest. -/
theorem quotientUNR_self {rhs : BitVec 16} (h : rhs ≠ 0) :
    0xffff ≤ quotientUNR rhs rhs ∧ quotientUNR rhs rhs ≤ 0x10001 := by
  obtain ⟨hlo, hhi⟩ := normalised_bounds h
  have hle := le_mul_recipUNR hlo hhi
  have hge := two_mul_mul_recipUNR_le hhi
  unfold quotientUNR
  omega

theorem clz16_two_pow : ∀ k < 16, clz16 (BitVec.ofNat 16 (2 ^ k)) = 15 - k := by decide

theorem toNat_two_pow {k : Nat} (h : k < 16) : (BitVec.ofNat 16 (2 ^ k)).toNat = 2 ^ k := by
  rw [BitVec.toNat_ofNat, Nat.mod_eq_of_lt (Nat.pow_lt_pow_right one_lt_two h)]

theorem recipUNR_0x8000 : recipUNR 0x8000 = 0x20000 := by decide

theorem quotientUNR_two_pow {k : Nat} (h : k < 16) (lhs : BitVec 16) :
    quotientUNR lhs (BitVec.ofNat 16 (2 ^ k)) = lhs.toNat * 2 ^ (16 - k) := by
  have hd : 2 ^ k * 2 ^ (15 - k) = 0x8000 := by rw [← pow_add, Nat.add_sub_cancel' (by omega)]; rfl
  have hp : 2 ^ (16 - k) = 2 * 2 ^ (15 - k) := by rw [← pow_succ', show 15 - k + 1 = 16 - k by omega]
  rw [quotientUNR, clz16_two_pow k h, toNat_two_pow h, hd, recipUNR_0x8000, hp, mul_left_comm]
  omega

/-- Below twice the divisor, the exact quotient does not overflow. -/
theorem exactQuotient_le {k l : Nat} (h : k < 16) (hl : l < 2 * 2 ^ k) : l * 2 ^ (16 - k) ≤ 0x1ffff := by
  refine Nat.le_of_lt_succ ?_
  calc l * 2 ^ (16 - k) < 2 * 2 ^ k * 2 ^ (16 - k) := Nat.mul_lt_mul_of_pos_right hl (by positivity)
    _ = 0x20000 := by rw [mul_assoc, ← pow_add, Nat.add_sub_cancel' h.le]; rfl

/-! #### The exact divide (R106) -/

/-- The un-clamped quotient of the exact divide. -/
def quotientExact (lhs rhs : BitVec 16) : Nat := (lhs.toNat * 0x20000 / rhs.toNat + 1) / 2

theorem divide_ordinary {lhs rhs : BitVec 16} (h : lhs.toNat < 2 * rhs.toNat) :
    divide lhs rhs = if quotientExact lhs rhs > 0x1ffff then divideOverflow else (quotientExact lhs rhs, noFlags) :=
  if_neg (Nat.not_le.2 h)

theorem divide_noFlags {lhs rhs : BitVec 16} (h : lhs.toNat < 2 * rhs.toNat) (hf : (divide lhs rhs).2 = noFlags) :
    (divide lhs rhs).1 = quotientExact lhs rhs := by
  rw [divide_ordinary h] at hf ⊢
  split
  · next hq =>
    rw [if_pos hq] at hf
    exact absurd hf.symm noFlags_ne_divOvf
  · rfl

theorem quotientExact_two_pow {k : Nat} (h : k < 16) (lhs : BitVec 16) :
    quotientExact lhs (BitVec.ofNat 16 (2 ^ k)) = lhs.toNat * 2 ^ (16 - k) := by
  have hp : lhs.toNat * 0x20000 = 2 * (lhs.toNat * 2 ^ (16 - k)) * 2 ^ k := by
    rw [mul_assoc 2, mul_assoc lhs.toNat, ← pow_add, Nat.sub_add_cancel h.le]
    omega
  rw [quotientExact, toNat_two_pow h, hp, Nat.mul_div_cancel _ (by positivity)]
  omega

/-! #### The second overflow exit (R105 item 3) -/

theorem divideUNR_secondExit {lhs rhs : BitVec 16} (h : lhs.toNat < 2 * rhs.toNat)
    (hf : (divideUNR lhs rhs).2 ≠ noFlags) : 0x1ffff < quotientUNR lhs rhs := by
  by_contra hq
  rw [divideUNR_ordinary h (Nat.le_of_not_lt hq)] at hf
  exact hf rfl

/-- A divide that takes the second exit has its divisor shifted: a divisor with bit 15 set leaves no 16-bit dividend
that is large enough. -/
theorem clz16_pos_of_secondExit {lhs rhs : BitVec 16} (hne : rhs ≠ 0) (hq : 0x1ffff < quotientUNR lhs rhs) :
    0 < clz16 rhs := by
  by_contra hz
  obtain ⟨hlo, hhi⟩ := normalised_bounds hne
  unfold quotientUNR at hq
  simp only [Nat.eq_zero_of_not_pos hz, pow_zero, mul_one] at hlo hhi hq
  have hmul : lhs.toNat * recipUNR rhs.toNat ≤ 0xffff * 0x20000 :=
    Nat.mul_le_mul (Nat.le_of_lt_succ lhs.isLt) (recipUNR_bounds hlo hhi).2
  omega

/-- The product with a dividend that is `g` short of twice the divisor. -/
theorem two_mul_sub_mul (d g r : Nat) : (2 * d - g) * r = 2 * (d * r) - g * r := by
  rw [Nat.sub_mul, mul_assoc]

/-- Three short of twice the normalised divisor is too short to overflow. -/
theorem gap_le_two {d g : Nat} (hlo : 0x8000 ≤ d) (hhi : d ≤ 0xffff)
    (hq : 0x1ffff < ((2 * d - g) * recipUNR d + 0x8000) / 65536) : g ≤ 2 := by
  have hge := two_mul_mul_recipUNR_le hhi
  rw [two_mul_sub_mul] at hq
  by_contra hg
  have hmul : 3 * 0x10000 ≤ g * recipUNR d := Nat.mul_le_mul (by omega) (recipUNR_bounds hlo hhi).1
  omega

/-- Two short of it overflows by the least possible amount, and only over a small reciprocal. -/
theorem overflow_of_gap_two {d : Nat} (hlo : 0x8000 ≤ d) (hhi : d ≤ 0xffff)
    (hq : 0x1ffff < ((2 * d - 2) * recipUNR d + 0x8000) / 65536) :
    ((2 * d - 2) * recipUNR d + 0x8000) / 65536 = 0x20000 ∧ 2 * recipUNR d ≤ d + 0x18000 := by
  have hr := (recipUNR_bounds hlo hhi).1
  have hge := two_mul_mul_recipUNR_le hhi
  rw [two_mul_sub_mul] at hq ⊢
  omega

/-- The divisors below 29122 and above 32544 that `overflow_of_gap_two` leaves: here the roundings of each divisor
decide, and a dividend of twice the divisor less one does not overflow. -/
theorem no_secondExit_below :
    ∀ j < 1252, (2 * (2 * (27870 + j)) - 2) * recipUNR (2 * (27870 + j)) + 0x8000 < 0x200000000 := by
  decide +kernel

theorem no_secondExit_above :
    ∀ j < 223, (2 * (2 * (32545 + j)) - 2) * recipUNR (2 * (32545 + j)) + 0x8000 < 0x200000000 := by
  decide +kernel

/-- The normalised divisors at which two short of twice the divisor overflows. A reciprocal as small as
`overflow_of_gap_two` asks for needs a divisor of 55740 or more, by `le_mul_recipUNR`. -/
theorem divisor_of_secondExit {r : Nat} (hlo : 0x8000 ≤ 2 * r) (hhi : 2 * r ≤ 0xffff)
    (hq : 0x1ffff < ((2 * (2 * r) - 2) * recipUNR (2 * r) + 0x8000) / 65536) : 29122 ≤ r ∧ r ≤ 32544 := by
  have hsmall := (overflow_of_gap_two hlo hhi hq).2
  have hlarge : 27870 ≤ r := by
    by_contra hr
    have hmul : 2 * r * (2 * recipUNR (2 * r)) ≤ 55738 * (55738 + 0x18000) :=
      Nat.mul_le_mul (by omega) (by omega)
    have hge := le_mul_recipUNR hlo hhi
    rw [mul_left_comm] at hmul
    omega
  constructor
  · by_contra hr
    have hno := no_secondExit_below (r - 27870) (by omega)
    rw [Nat.add_sub_cancel' hlarge] at hno
    omega
  · by_contra hr
    have hno := no_secondExit_above (r - 32545) (by omega)
    rw [Nat.add_sub_cancel' (by omega)] at hno
    omega

/-- Shifted by `2 ^ z` with `z` positive, the dividend is two short of twice the divisor only if `z` is 1 and the
dividend itself is one short. -/
theorem gap_eq_two {l r z : Nat} (hz : 0 < z) (h : l < 2 * r) (hg : (2 * r - l) * 2 ^ z ≤ 2) :
    2 ^ z = 2 ∧ l = 2 * r - 1 := by
  have hpow : 2 ≤ 2 ^ z := Nat.le_self_pow hz.ne' 2
  have hleft : 2 ^ z ≤ (2 * r - l) * 2 ^ z := Nat.le_mul_of_pos_left _ (Nat.sub_pos_of_lt h)
  have htwo : 2 ^ z = 2 := by omega
  rw [htwo] at hg
  omega

/-- Where the second exit is taken, and with which quotient. -/
theorem secondExit_spec {lhs rhs : BitVec 16} (h : lhs.toNat < 2 * rhs.toNat) (hq : 0x1ffff < quotientUNR lhs rhs) :
    29122 ≤ rhs.toNat ∧ rhs.toNat ≤ 32544 ∧ lhs.toNat = 2 * rhs.toNat - 1 ∧ quotientUNR lhs rhs = 0x20000 := by
  have hne : rhs ≠ 0 := by
    rintro rfl
    exact absurd h (Nat.not_lt_zero _)
  obtain ⟨hlo, hhi⟩ := normalised_bounds hne
  have hpos := clz16_pos_of_secondExit hne hq
  have hn : lhs.toNat * 2 ^ clz16 rhs =
      2 * (rhs.toNat * 2 ^ clz16 rhs) - (2 * rhs.toNat - lhs.toNat) * 2 ^ clz16 rhs := by
    rw [Nat.sub_mul, mul_assoc, Nat.sub_sub_self]
    exact (Nat.mul_le_mul_right _ h.le).trans_eq (mul_assoc ..)
  rw [quotientUNR, hn] at hq ⊢
  obtain ⟨hpow, hl⟩ := gap_eq_two hpos h (gap_le_two hlo hhi hq)
  have hgap : (2 * rhs.toNat - lhs.toNat) * 2 ^ clz16 rhs = 2 := by
    rw [hpow]
    omega
  rw [hgap] at hq ⊢
  have hquot := (overflow_of_gap_two hlo hhi hq).1
  rw [hpow, mul_comm rhs.toNat 2] at hlo hhi hq
  obtain ⟨hmin, hmax⟩ := divisor_of_secondExit hlo hhi hq
  exact ⟨hmin, hmax, hl, hquot⟩

/-! #### The statements -/

/-- Settles O29: the count's specification bit by bit, and `normalised_bounds` for the normalised value. -/
theorem clz16CountsTheLeadingZeros : Obligations.Clz16CountsTheLeadingZeros :=
  ⟨fun _ => divideUNR_overflow (Nat.zero_le _), fun x => ⟨(clz16_spec x).2.1, clz16_eq_16_iff x, fun h =>
    ⟨clz16_le_15 h, getLsbD_clz16 h, normalised_bounds h⟩⟩⟩

/-- Settles O30: on each segment the reciprocal lies between its values at the segment's ends. -/
theorem reciprocalStaysInRange : Obligations.ReciprocalStaysInRange := fun _ => recipUNR_bounds

/-- Settles O31; equal operands are `quotientUNR_self`. -/
theorem divideCorners : Obligations.DivideCorners := by
  intro lhs rhs
  refine ⟨divideUNR_overflow (Nat.zero_le _), divideUNR_overflow, fun h => ?_, fun h => ?_⟩
  all_goals have hpos : 0 < rhs.toNat := Nat.pos_of_ne_zero fun h0 => h (BitVec.eq_of_toNat_eq h0)
  · have hq := quotientUNR_zero rhs
    rw [divideUNR_ordinary (by simpa using hpos) (by omega), hq]
  · obtain ⟨hlo, hhi⟩ := quotientUNR_self h
    rw [divideUNR_ordinary (by omega) (by omega)]
    refine ⟨rfl, ?_⟩
    simp only [List.mem_cons, List.not_mem_nil, or_false]
    omega

/-- Settles O32: at a power of two the normalised divisor is 0x8000, whose reciprocal 0x20000 is exact. -/
theorem divideIsExactAtPowersOfTwo : Obligations.DivideIsExactAtPowersOfTwo := by
  intro k lhs hk hl
  have hle := exactQuotient_le hk hl
  have hlt : lhs.toNat < 2 * (BitVec.ofNat 16 (2 ^ k)).toNat := by rwa [toNat_two_pow hk]
  have hunr := quotientUNR_two_pow hk lhs
  have hexact := quotientExact_two_pow hk lhs
  constructor
  · rw [divideUNR_ordinary hlt (hunr.trans_le hle), hunr]
  · rw [divide_ordinary hlt, hexact, if_neg (Nat.not_lt.2 hle)]

/-- Settles O33, by `quotientUNR_mono` through the two exits. -/
theorem divideIsMonotoneInTheDividend : Obligations.DivideIsMonotoneInTheDividend :=
  fun _ b rhs h => ⟨divideUNR_mono rhs h, divideUNR_le b rhs, divideUNR_flag_mono rhs h⟩

/-- Settles O34, by `secondExit_spec`; the pair of R105 item 3 is evaluated. -/
theorem secondOverflowExitIsReachable : Obligations.SecondOverflowExitIsReachable :=
  ⟨fun _ _ h hf => secondExit_spec h (divideUNR_secondExit h hf), by decide, by decide⟩

/-- Settles O35: the two inequalities bound the floors of `quotientExact`. -/
theorem exactDivideRoundsToNearest : Obligations.ExactDivideRoundsToNearest := by
  intro lhs rhs h hf
  have hpos : 0 < rhs.toNat := by omega
  have hlow := Nat.div_mul_le_self (lhs.toNat * 0x20000) rhs.toNat
  have hhigh := Nat.lt_div_mul_add hpos (a := lhs.toNat * 0x20000)
  rw [divide_noFlags h hf, quotientExact]
  generalize lhs.toNat * 0x20000 / rhs.toNat = a at *
  constructor
  · have hmul := Nat.mul_le_mul_right rhs.toNat (show a + 1 ≤ 2 * ((a + 1) / 2) + 1 by omega)
    linarith
  · have hmul := Nat.mul_le_mul_right rhs.toNat (show 2 * ((a + 1) / 2) ≤ a + 1 by omega)
    linarith

/-- Settles O28, entry by entry. -/
theorem reciprocalTableMatchesItsGenerator : Obligations.ReciprocalTableMatchesItsGenerator :=
  ⟨by decide +kernel, by decide +kernel⟩

end Sys2Proof.Machine

/-! ### 42_geometry: nclip, avsz3, avsz4, rtps and rtpt -/

namespace Sys2Proof.Machine

open Sys2Proof.Safety

/-! #### Values inside the range of their register -/

/-- A value of the 32-bit signed range survives being stored and read. -/
theorem toInt_ofInt32 {v : Int} (hlo : -2147483648 ≤ v) (hhi : v ≤ 2147483647) : (BitVec.ofInt 32 v).toInt = v := by
  rw [BitVec.toInt_ofInt]
  exact Int.bmod_eq_of_le (by norm_num; omega) (by norm_num; omega)

/-- A value of the 16-bit unsigned range survives being stored and read. -/
theorem toNat_ofInt16 {v : Int} (hlo : 0 ≤ v) (hhi : v ≤ 65535) : ((BitVec.ofInt 16 v).toNat : Int) = v := by
  rw [BitVec.toNat_ofInt]
  omega

/-- A value inside the 32-bit range raises nothing (40_primitives R84). -/
theorem check32_inRange {v : Int} (hlo : -2147483648 ≤ v) (hhi : v ≤ 2147483647) : check32 v = noFlags :=
  FlagSet.ext_bits fun b => by
    simp only [hasBit_check32, hhi.not_gt, hlo.not_gt, decide_false, Bool.false_and, Bool.or_false, hasBit_noFlags]

theorem or_noFlags (f : FlagSet) : f ||| noFlags = f := BitVec.or_zero

/-! #### nclip (R111) -/

/-- `nclip`: `MAC[0]` and FLAG change, and the latches. -/
theorem exec_nclip (sf lm : Bool) (s : State) :
    exec (.nclip sf lm) s =
      .next { s with
        sf := sf, lm := lm, mac0 := BitVec.ofInt 32 (nclipSum s.sxy), flag := s.flag ||| check32 (nclipSum s.sxy) } :=
  rfl

/-- Settles O36: `nclipSum` is the area multiplied out, and `check32` gives its two flags. -/
theorem nclipStoresTheSignedArea : Obligations.NclipStoresTheSignedArea := by
  intro sf lm s area
  have harea : nclipSum s.sxy = area s := by
    simp only [nclipSum, area]
    ring
  refine ⟨⟨_, harea ▸ exec_nclip sf lm s, fun b => ?_⟩, ?_⟩
  · simp only [hasBit_or, hasBit_check32, State.flagged, Bool.or_assoc, eq_comm (b := b)]
  · simp only [area]
    ring

/-- The product of two coordinates in the range a push keeps (10_state R17). -/
theorem mul_bounds_of_screen {a b : Int} (ha : -1024 ≤ a ∧ a ≤ 1023) (hb : -1024 ≤ b ∧ b ≤ 1023) :
    -1048576 ≤ a * b ∧ a * b ≤ 1048576 := by
  have habs : |a * b| ≤ 1024 * 1024 := by
    rw [abs_mul]
    exact mul_le_mul (abs_le.2 (by omega)) (abs_le.2 (by omega)) (abs_nonneg b) (by decide)
  exact abs_le.1 habs

/-- The area of a triangle of points that commands produced: six products of at most 2^20 (R111). -/
theorem nclipSum_bounds {q : Fifo3 ScreenXY} (h0 : ScreenInRange q.e0) (h1 : ScreenInRange q.e1)
    (h2 : ScreenInRange q.e2) : -6291456 ≤ nclipSum q ∧ nclipSum q ≤ 6291456 := by
  have product : ∀ {p r : ScreenXY}, ScreenInRange p → ScreenInRange r →
      -1048576 ≤ p.x.toInt * r.y.toInt ∧ p.x.toInt * r.y.toInt ≤ 1048576 :=
    fun ⟨hlo, hhi, _, _⟩ ⟨_, _, hlo', hhi'⟩ => mul_bounds_of_screen ⟨hlo, hhi⟩ ⟨hlo', hhi'⟩
  have h01 := product h0 h1
  have h12 := product h1 h2
  have h20 := product h2 h0
  have h02 := product h0 h2
  have h10 := product h1 h0
  have h21 := product h2 h1
  unfold nclipSum
  omega

/-- Settles O37: an area in the bounds of `nclipSum_bounds` is stored exactly and raises nothing. -/
theorem nclipOfProjectedPointsIsExact : Obligations.NclipOfProjectedPointsIsExact := by
  intro sf lm s ⟨_, _, h0, h1, h2⟩
  obtain ⟨hlo, hhi⟩ := nclipSum_bounds h0 h1 h2
  have hexact : (BitVec.ofInt 32 (nclipSum s.sxy)).toInt = nclipSum s.sxy :=
    toInt_ofInt32 (by omega) (by omega)
  refine ⟨BitVec.ofInt 32 (nclipSum s.sxy), ?_, hexact, by rwa [hexact], by rwa [hexact]⟩
  rw [exec_nclip, check32_inRange (by omega) (by omega), or_noFlags]

/-! #### avsz3 and avsz4 (R114, R115) -/

/-- The flag set that `averageZ(v)` raises. -/
def averageFlags (v : Int) : FlagSet := check32 v ||| (clip (v / 4096) 65535 0 FlagBit.sz3OtzSat.mask).2

theorem hasBit_averageFlags (v : Int) (b : FlagBit) :
    hasBit (averageFlags v) b =
      ((decide (v > 2147483647) && decide (b = .mac0Pos)) || (decide (v < -2147483648) && decide (b = .mac0Neg)) ||
        (decide (v / 4096 > 65535 ∨ v / 4096 < 0) && decide (b = .sz3OtzSat))) := by
  simp only [averageFlags, hasBit_or, hasBit_check32, hasBit_clip_mask, eq_comm (b := b)]

/-- `averageZ(v)` as a whole state. -/
theorem averageZ_state (v : Int) (s : State) :
    averageZ v s =
      { s with
        mac0 := BitVec.ofInt 32 v, otz := BitVec.ofInt 16 (sat 0 65535 (v / 4096)),
        flag := s.flag ||| averageFlags v } :=
  averageZ_eq v s

theorem avsz3Sum_eq (s : State) :
    avsz3Sum s = s.ctrl.zsf3.toInt * (s.sz.e1.toNat + s.sz.e2.toNat + s.sz.e3.toNat : Nat) := by
  simp only [avsz3Sum, unsigned, Nat.cast_add]

theorem avsz4Sum_eq (s : State) :
    avsz4Sum s = s.ctrl.zsf4.toInt * (s.sz.e0.toNat + s.sz.e1.toNat + s.sz.e2.toNat + s.sz.e3.toNat : Nat) := by
  simp only [avsz4Sum, unsigned, Nat.cast_add]

/-- Settles O38: both commands are `averageZ` of their sum. -/
theorem averageZStoresTheScaledSum : Obligations.AverageZStoresTheScaledSum := by
  intro sf lm s after raises v3 v4
  have average : ∀ v, averageZ v (s.withLatches sf lm) = after v (s.flag ||| averageFlags v) := fun v =>
    averageZ_state v _
  have flags : ∀ v b, hasBit (s.flag ||| averageFlags v) b = (s.flagged b || raises v b) := fun v b => by
    rw [hasBit_or, hasBit_averageFlags, State.flagged]
  refine ⟨⟨_, ?_, flags v3⟩, ⟨_, ?_, flags v4⟩⟩
  · rw [exec_eq, ← average, commandBody, avsz3Body, avsz3Sum_eq]
    rfl
  · rw [exec_eq, ← average, commandBody, avsz4Body, avsz4Sum_eq]
    rfl

/-! #### rtps (R112) -/

/-- The Z that `rtps(n)` pushes from its transformed sums (R112 step 5). -/
def pushedZ (c : Vec3 Int) : BitVec 16 := BitVec.ofInt 16 (sat 0 65535 (c.z / 4096))

/-- The screen sums x and y and the depth-cue sum of `rtps(n)` (R112 steps 7 and 9), as the components of a triple. -/
def projectionSums (k : Control) (sf lm : Bool) (c : Vec3 Int) : Vec3 Int :=
  let q := (divideUNR k.h (pushedZ c)).1
  ⟨screenSum q (irInt sf lm c.x) k.ofx, screenSum q (irInt sf lm c.y) k.ofy, q * k.dqa.toInt + k.dqb.toInt⟩

/-- The screen point that `rtps(n)` pushes from its projection sums (R112 step 7). -/
def screenPoint (p : Vec3 Int) : ScreenXY :=
  ⟨BitVec.ofInt 16 (sat (-1024) 1023 (p.x / 65536)), BitVec.ofInt 16 (sat (-1024) 1023 (p.y / 65536))⟩

/-- The flag set of the first part of `rtps(n)`, that of `rtpsTransform_eq`. -/
def transformFlags (sf lm : Bool) (c : Vec3 Int) : FlagSet :=
  laneFlags .one sf lm c.x ||| laneFlags .two sf lm c.y ||| check44 c.z .mac3Pos .mac3Neg |||
    (clip (c.z / 4096) 0x7fff (irMin (sf && lm)) FlagBit.ir3Sat.mask).2 |||
    (clip (c.z / 4096) 0xffff 0 FlagBit.sz3OtzSat.mask).2

/-- The flag set of `rtps(n)`. -/
def perspectiveFlags (k : Control) (sf lm : Bool) (c : Vec3 Int) : FlagSet :=
  let p := projectionSums k sf lm c
  transformFlags sf lm c ||| projectFlags (divideUNR k.h (pushedZ c)).2 p.x p.y p.z

/-- The state after `rtps(n)` on transformed sums `c`. -/
def State.perspective (s : State) (lm : Bool) (c : Vec3 Int) : State :=
  let p := projectionSums s.ctrl s.sf lm c
  { s with
    mac := macTriple s.sf c, ir := regs16 (irInts s.sf lm c), sz := pushFifo4 s.sz (pushedZ c),
    sxy := pushFifo3 s.sxy (screenPoint p), mac0 := BitVec.ofInt 32 p.z,
    ir0 := BitVec.ofInt 16 (sat 0 4096 (p.z / 4096)), flag := s.flag ||| perspectiveFlags s.ctrl s.sf lm c }

/-- The first part of `rtps(n)`, with its flag set named. -/
theorem rtpsTransform_state (n : Vertex) (lm : Bool) (s : State) :
    rtpsTransform n lm s =
      { s with
        mac := macTriple s.sf (transformSums s n), ir := regs16 (irInts s.sf lm (transformSums s n)),
        sz := pushFifo4 s.sz (pushedZ (transformSums s n)),
        flag := s.flag ||| transformFlags s.sf lm (transformSums s n) } :=
  rtpsTransform_eq n lm s

/-- The body `rtps(n)` as a whole state. -/
theorem rtpsBody_eq_perspective (n : Vertex) (lm : Bool) (s : State) :
    rtpsBody n lm s = s.perspective lm (transformSums s n) := by
  rw [rtpsBody_eq, rtpsTransform_state]
  simp only [State.perspective, perspectiveFlags, State.projected, ← BitVec.or_assoc]
  rfl

/-- `rtps`: what `perspective` gives from the sums of vertex 0, and the latches. -/
theorem exec_rtps (sf lm : Bool) (s : State) :
    exec (.rtps sf lm) s = .next ((s.withLatches sf lm).perspective lm (transformSums s .v0)) := by
  rw [exec_eq, commandBody, rtpsBody_eq_perspective]
  rfl

/-- `IR3_SAT` tests the shifted sum of lane 3, with the lower limit of `lm` only for `sf` = 1 (R112 step 4, decision
D19). -/
theorem hasBit_transformFlags (sf lm : Bool) (c : Vec3 Int) (b : FlagBit) :
    hasBit (transformFlags sf lm c) b =
      (laneRaises .one sf lm c.x b || laneRaises .two sf lm c.y b ||
        (over44 c.z && decide (b = .mac3Pos)) || (under44 c.z && decide (b = .mac3Neg)) ||
        ((if sf then irClamped true lm c.z else decide (c.z / 4096 > 32767 ∨ c.z / 4096 < -32768)) &&
          decide (b = .ir3Sat)) ||
        (decide (c.z / 4096 > 65535 ∨ c.z / 4096 < 0) && decide (b = .sz3OtzSat))) := by
  have hir3 : decide (c.z / 4096 > 0x7fff ∨ c.z / 4096 < irMin (sf && lm)) =
      if sf then irClamped true lm c.z else decide (c.z / 4096 > 32767 ∨ c.z / 4096 < -32768) := by
    cases sf
    · rfl
    · rw [irMin_eq_irLow]
      rfl
  simp only [transformFlags, hasBit_or, hasBit_laneFlags, hasBit_check44, hasBit_clip_mask, hir3, over44, under44,
    Bool.or_assoc, eq_comm (b := b)]

theorem hasBit_projectFlags (g : FlagSet) (x y d : Int) (b : FlagBit) :
    hasBit (projectFlags g x y d) b =
      (hasBit g b ||
        (decide (x > 2147483647 ∨ y > 2147483647 ∨ d > 2147483647) && decide (b = .mac0Pos)) ||
        (decide (x < -2147483648 ∨ y < -2147483648 ∨ d < -2147483648) && decide (b = .mac0Neg)) ||
        (decide (x / 65536 > 1023 ∨ x / 65536 < -1024) && decide (b = .sx2Sat)) ||
        (decide (y / 65536 > 1023 ∨ y / 65536 < -1024) && decide (b = .sy2Sat)) ||
        (decide (d / 4096 > 4096 ∨ d / 4096 < 0) && decide (b = .ir0Sat))) := by
  simp only [projectFlags, hasBit_or, hasBit_check32, hasBit_clip_mask, Bool.decide_or, Bool.and_or_distrib_right,
    eq_comm (b := b)]
  ac_rfl

/-- Settles O39: `exec_rtps` gives the state, and the flag sets of the two parts every bit. -/
theorem rtpsTransformsAndProjects : Obligations.RtpsTransformsAndProjects := by
  intro sf lm s c z q x y d point z3Out
  refine ⟨s.flag ||| perspectiveFlags s.ctrl sf lm c, exec_rtps sf lm s, fun b => ?_⟩
  have hproject := hasBit_projectFlags (divideUNR s.ctrl.h z).2 x y d b
  have hflags : hasBit (perspectiveFlags s.ctrl sf lm c) b =
      (hasBit (transformFlags sf lm c) b || hasBit (projectFlags (divideUNR s.ctrl.h z).2 x y d) b) := hasBit_or ..
  rw [hasBit_or, hflags, hasBit_transformFlags, hproject, State.flagged]
  simp only [z3Out, Bool.or_assoc]

/-! #### What rtps depends on (R116) -/

/-- Settles O41: the transformed sums read `V[0]` and the control registers, and every other new value reads those
sums and the control registers. -/
theorem rtpsIgnoresOldResults : Obligations.RtpsIgnoresOldResults := by
  intro sf lm s s' hv hctrl
  have hsums : transformSums s .v0 = transformSums s' .v0 := by
    simp only [transformSums, State.vertex, hv, hctrl]
  refine ⟨_, _, exec_rtps sf lm s, exec_rtps sf lm s', ?_⟩
  simp only [State.perspective, State.withLatches, pushFifo3, pushFifo4, hsums, hctrl, true_and]
  exact ⟨_, rfl, rfl⟩

/-- The pushed Z is read back as it was clamped. -/
theorem toNat_pushedZ (c : Vec3 Int) : ((pushedZ c).toNat : Int) = sat 0 65535 (c.z / 4096) :=
  toNat_ofInt16 (le_max_left _ _) (max_le (by decide) (min_le_left _ _))

/-- The flag bits that the second part of `rtps(n)` can raise (`hasBit_projectFlags`). -/
def projectBits : List FlagBit := [.divOvf, .mac0Pos, .mac0Neg, .sx2Sat, .sy2Sat, .ir0Sat]

theorem hasBit_perspectiveFlags_of_transform {b : FlagBit} (hb : b ∉ projectBits) (k : Control) (sf lm : Bool)
    (c : Vec3 Int) : hasBit (perspectiveFlags k sf lm c) b = hasBit (transformFlags sf lm c) b := by
  simp only [projectBits, List.mem_cons, List.not_mem_nil, or_false, not_or] at hb
  obtain ⟨hdiv, hpos, hneg, hx, hy, hir0⟩ := hb
  simp only [perspectiveFlags, hasBit_or, hasBit_projectFlags, hasBit_divideUNR, Ne.symm hdiv, hpos, hneg, hx, hy,
    hir0, decide_false, Bool.and_false, Bool.or_false]

/-- The flag bits of lane 3 (R112 steps 3 and 4). -/
theorem hasBit_transformFlags_lane3 (sf lm : Bool) (c : Vec3 Int) :
    hasBit (transformFlags sf lm c) .mac3Pos = over44 c.z ∧
      hasBit (transformFlags sf lm c) .mac3Neg = under44 c.z ∧
      hasBit (transformFlags sf lm c) .ir3Sat =
        if sf then irClamped true lm c.z else decide (c.z / 4096 > 32767 ∨ c.z / 4096 < -32768) := by
  refine ⟨?_, ?_, ?_⟩ <;> simp [hasBit_transformFlags, laneRaises, macPosBit, macNegBit, irSatBit]

/-- From a clear FLAG a bit that the projection cannot raise is, after `rtps`, as the transform raises it. -/
theorem flagged_perspective_of_clear {s : State} (hclear : s.flag = noFlags) {b : FlagBit} (hb : b ∉ projectBits)
    (sf lm : Bool) (c : Vec3 Int) :
    ((s.withLatches sf lm).perspective lm c).flagged b = hasBit (transformFlags sf lm c) b := by
  have hflag : ((s.withLatches sf lm).perspective lm c).flag = s.flag ||| perspectiveFlags s.ctrl sf lm c := rfl
  rw [State.flagged, hflag, hclear, hasBit_or, hasBit_noFlags, Bool.false_or,
    hasBit_perspectiveFlags_of_transform hb]

/-- Settles O40: from a clear FLAG the bits of lane 3 are those of the transform, and a sum that did not overflow is
read back from `MAC[3]` as it was stored. -/
theorem rtpsScreenZFollowsTheAccumulator : Obligations.RtpsScreenZFollowsTheAccumulator := by
  intro lm s hclear s3
  have flagged := @flagged_perspective_of_clear s hclear
  have lane3 := fun sf => hasBit_transformFlags_lane3 sf lm (transformSums s .v0)
  refine ⟨⟨_, exec_rtps true lm s, fun hpos hneg => ?_, ?_⟩,
    ⟨_, exec_rtps false lm s, toNat_pushedZ _, fun hlo hhi => ?_, ?_⟩⟩
  · obtain ⟨hposBit, hnegBit, -⟩ := lane3 true
    rw [flagged (by decide), hposBit] at hpos
    rw [flagged (by decide), hnegBit] at hneg
    have hover : ¬ s3 ≥ 8796093022208 := of_decide_eq_false hpos
    have hunder : ¬ s3 < -8796093022208 := of_decide_eq_false hneg
    have hmac : (BitVec.ofInt 32 (s3 / 4096)).toInt = s3 / 4096 := toInt_ofInt32 (by omega) (by omega)
    exact (toNat_pushedZ _).trans (congrArg (sat 0 65535) hmac.symm)
  · obtain ⟨-, -, hir3Bit⟩ := lane3 true
    rw [flagged (by decide), hir3Bit]
    exact decide_eq_true_iff
  · have hmac : (BitVec.ofInt 32 s3).toInt = s3 := toInt_ofInt32 hlo hhi
    exact (toNat_pushedZ _).trans (congrArg (fun v => sat 0 65535 (v / 4096)) hmac.symm)
  · obtain ⟨-, -, hir3Bit⟩ := lane3 false
    rw [flagged (by decide), hir3Bit]
    exact decide_eq_true_iff

/-! #### rtpt (R113) -/

/-- What three commands raise one after the other is the union of what each leaves when run alone. -/
theorem or_three_raises (f g0 g1 g2 : FlagSet) :
    f ||| g0 ||| g1 ||| g2 = (f ||| g0) ||| (f ||| g1) ||| (f ||| g2) :=
  FlagSet.ext_bits fun b => by
    simp only [hasBit_or]
    cases hasBit f b <;> simp

/-- Three runs of `rtps(n)`: each shifts the FIFOs, overwrites the accumulators and ORs its own flags. -/
theorem perspective_three (s : State) (lm : Bool) (c0 c1 c2 : Vec3 Int) :
    ((s.perspective lm c0).perspective lm c1).perspective lm c2 =
      { s with
        mac0 := (s.perspective lm c2).mac0, mac := (s.perspective lm c2).mac
        ir0 := (s.perspective lm c2).ir0, ir := (s.perspective lm c2).ir
        sz := ⟨s.sz.e3, (s.perspective lm c0).sz.e3, (s.perspective lm c1).sz.e3, (s.perspective lm c2).sz.e3⟩
        sxy := ⟨(s.perspective lm c0).sxy.e2, (s.perspective lm c1).sxy.e2, (s.perspective lm c2).sxy.e2⟩
        flag := (s.perspective lm c0).flag ||| (s.perspective lm c1).flag ||| (s.perspective lm c2).flag } := by
  simp only [State.perspective, pushFifo3, pushFifo4, ← or_three_raises]

/-- Settles O42: `rtpt` is three runs of the body, whose sums are those of `rtps` with vertex 0 replaced. -/
theorem rtptProjectsThreeVertices : Obligations.RtptProjectsThreeVertices := by
  intro sf lm s
  refine ⟨_, _, _, exec_rtps .., exec_rtps .., exec_rtps .., ?_⟩
  rw [exec_eq, commandBody, rtpsBody_eq_perspective, rtpsBody_eq_perspective, rtpsBody_eq_perspective]
  exact congrArg Host.Outcome.next (perspective_three (s.withLatches sf lm) lm _ _ _)

end Sys2Proof.Machine

/-! ### 43_lighting: ncs, nct, nccs, ncct, ncds, ncdt, cc and cdp -/

namespace Sys2Proof.Machine

open Sys2Proof.Safety

/-! #### One vertex (R120 to R122, R124, R126, R128 to R132) -/

/-- `colourResult` from loaded latches, as a whole state. -/
theorem State.colourResult_withLatches (s : State) (sf lm : Bool) (c : Vec3 Int) (g : FlagSet) :
    (s.withLatches sf lm).colourResult c lm g =
      { s with
        sf := sf, lm := lm, mac := macTriple sf c, ir := regs16 (irInts sf lm c)
        rgb := pushedColour s.rgb (colourOf (macTriple sf c) s.rgbc.code), flag := s.flag ||| g } := by
  simp only [State.colourResult, State.withLatches, State.withFlag, State.withMac, State.withIr, State.withRgb]

/-- What a command whose body ends in a colour push changes. -/
theorem exec_of_colourResult {i : Instr} {s : State} {c : Vec3 Int} {g : FlagSet}
    (h : commandBody i (s.withLatches (sfOf i) (lmOf i)) =
      (s.withLatches (sfOf i) (lmOf i)).colourResult c (lmOf i) g) :
    exec i s =
      .next { s with
        sf := sfOf i, lm := lmOf i, mac := macTriple (sfOf i) c, ir := regs16 (irInts (sfOf i) (lmOf i) c)
        rgb := pushedColour s.rgb (colourOf (macTriple (sfOf i) c) s.rgbc.code), flag := s.flag ||| g } := by
  rw [exec_eq, h, State.colourResult_withLatches]

/-- Settles O44: `ncsBody_eq` gives the state and the flag sets of the three stages. -/
theorem ncsLightsVertexZero : Obligations.NcsLightsVertexZero := by
  intro sf lm s a b
  refine ⟨_, exec_of_colourResult (ncsBody_eq .v0 lm (s.withLatches sf lm)), fun k => ?_⟩
  simp only [hasBit_or, hasBit_tripleFlags, hasBit_colourFlags, State.flagged, Bool.or_assoc]
  rfl

/-- Settles O45: `nccsBody_eq` and `ccBody_eq` give the states and the flag sets of their stages. -/
theorem nccsAndCcModulateTheLitColour : Obligations.NccsAndCcModulateTheLitColour := by
  intro sf lm s after a b m b' m'
  refine ⟨⟨_, exec_of_colourResult (nccsBody_eq .v0 lm (s.withLatches sf lm)), fun k => ?_⟩,
    ⟨_, exec_of_colourResult (ccBody_eq lm (s.withLatches sf lm)), fun k => ?_⟩⟩
  all_goals
    simp only [hasBit_or, hasBit_tripleFlags, hasBit_colourFlags, State.flagged, Bool.or_assoc]
    rfl

/-- Settles O46: `ncdsBody_eq` and `cdpBody_eq` give the states and the flag sets of their stages, the difference of
the blend among them. -/
theorem ncdsAndCdpCueTheLitColour : Obligations.NcdsAndCdpCueTheLitColour := by
  intro sf lm s after a b p b' p'
  refine ⟨⟨_, exec_of_colourResult (ncdsBody_eq .v0 lm (s.withLatches sf lm)), fun k => ?_⟩,
    ⟨_, exec_of_colourResult (cdpBody_eq lm (s.withLatches sf lm)), fun k => ?_⟩⟩
  all_goals
    simp only [hasBit_or, hasBit_tripleFlags, hasBit_colourFlags, State.flagged, Bool.or_assoc]
    rfl

/-! #### Compositions of commands (R133) -/

/-- Run after a command with the same `sf` and `lm`, a command finds its latches loaded. -/
theorem exec_after {i j : Instr} {s t : State} (h : exec i s = .next t) (hsf : sfOf j = sfOf i)
    (hlm : lmOf j = lmOf i) : exec j t = .next (commandBody j t) := by
  obtain ⟨htsf, htlm, -⟩ := exec_next_frame h
  have hlatched : t.withLatches (sfOf j) (lmOf j) = t := by
    rw [hsf, hlm, ← htsf, ← htlm]
    rfl
  rw [exec_eq, hlatched]

/-- The light-vector stage is the `mvmva` of its operands (R121, 45_general R148). -/
theorem exec_mvmva_lightVector (sf lm : Bool) (s : State) :
    exec (.mvmva sf lm .llm .v0 .zero) s = .next (lightVector .v0 lm (s.withLatches sf lm)) := rfl

/-- The light-colour stage is the `mvmva` of its operands (R128, 45_general R148). -/
theorem exec_mvmva_lightColour (sf lm : Bool) (s : State) :
    exec (.mvmva sf lm .lcm .ir .bk) s = .next (lightColour lm (s.withLatches sf lm)) := rfl

/-- Without its first stage `nccs` is `cc`. -/
theorem nccsBody_eq_ccBody (n : Vertex) (lm : Bool) (s : State) :
    nccsBody n lm s = ccBody lm (lightVector n lm s) := rfl

/-- Without its first stage `ncds` is `cdp`. -/
theorem ncdsBody_eq_cdpBody (n : Vertex) (lm : Bool) (s : State) :
    ncdsBody n lm s = cdpBody lm (lightVector n lm s) := rfl

/-- Without its first stage `cdp` is `dcpl`. -/
theorem cdpBody_eq_dcplBody (lm : Bool) (s : State) : cdpBody lm s = dcplBody lm (lightColour lm s) := rfl

/-- Settles O48: each pipeline's body is a stage and the body of the other command, which finds its latches loaded. -/
theorem lightingCommandsComposeFromStages : Obligations.LightingCommandsComposeFromStages := by
  intro sf lm s
  have hvector := exec_mvmva_lightVector sf lm s
  have hcolour := exec_mvmva_lightColour sf lm s
  refine ⟨_, _, hvector, hcolour, ?_, ?_, ?_⟩
  · rw [exec_after (j := .cc sf lm) hvector rfl rfl, exec_eq, commandBody, nccsBody_eq_ccBody]
    rfl
  · rw [exec_after (j := .cdp sf lm) hvector rfl rfl, exec_eq, commandBody, ncdsBody_eq_cdpBody]
    rfl
  · rw [exec_after (j := .dcpl sf lm) hcolour rfl rfl, exec_eq, commandBody, cdpBody_eq_dcplBody]
    rfl

/-! #### ncds with a zero factor (R133) -/

/-- With `IR[0]` = 0 the blend is its source (40_primitives R94). -/
theorem interpolated_of_ir0 {s : State} (h : s.ir0 = 0) (sf : Bool) (c : Vec3 Int) : interpolated s sf c = c := by
  simp [interpolated, blendSums, h]

/-- Settles O49: the blend of `ncds` is its source, which is what `nccs` stores; the flag set of `ncds` has those of
the difference besides. -/
theorem ncdsWithZeroFactorMatchesNccs : Obligations.NcdsWithZeroFactorMatchesNccs := by
  intro sf lm s hzero
  have hnccs := nccsBody_eq .v0 lm (s.withLatches sf lm)
  have hncds := ncdsBody_eq .v0 lm (s.withLatches sf lm)
  rw [interpolated_of_ir0 (s := s.withLatches sf lm) hzero] at hncds
  refine ⟨_, _, exec_of_colourResult hnccs, exec_of_colourResult hncds, rfl, fun b => ?_⟩
  simp only [State.flagged, hasBit_or, Bool.or_eq_true]
  tauto

/-! #### Three vertices (R123, R125, R127) -/

/-- `s` with the registers that a lighting command writes replaced: `colourResult` is of this form. -/
def State.withResults (s : State) (f : FlagSet) (m : Vec3 (BitVec 32)) (r : Vec3 (BitVec 16)) (q : Fifo3 Color) :
    State :=
  { s with flag := f, mac := m, ir := r, rgb := q }

theorem State.colourResult_eq_withResults (s : State) (c : Vec3 Int) (lm : Bool) (g : FlagSet) :
    s.colourResult c lm g =
      s.withResults (s.flag ||| g) (macTriple s.sf c) (regs16 (irInts s.sf lm c))
        (pushedColour s.rgb (colourOf (macTriple s.sf c) s.rgbc.code)) := by
  simp only [State.colourResult, State.withResults, State.withFlag, State.withMac, State.withIr, State.withRgb]

/-- A body run on other results overwrites the accumulators, shifts the FIFO and ORs its flags. -/
theorem State.colourResult_withResults (s : State) (f : FlagSet) (m : Vec3 (BitVec 32)) (r : Vec3 (BitVec 16))
    (q : Fifo3 Color) (c : Vec3 Int) (lm : Bool) (g : FlagSet) :
    (s.withResults f m r q).colourResult c lm g =
      s.withResults (f ||| g) (macTriple s.sf c) (regs16 (irInts s.sf lm c))
        (pushedColour q (colourOf (macTriple s.sf c) s.rgbc.code)) := by
  simp only [State.colourResult_eq_withResults, State.withResults]

/-- `s` with vertex `n` in the place of vertex 0. -/
def State.withFirst (s : State) (n : Vertex) : State := s.withV { s.v with v0 := s.vertex n }

theorem State.withFirst_v0 (s : State) : s.withFirst .v0 = s := rfl

/-- A body that lights one vertex: neither the results of earlier runs nor the place of its vertex has an effect on
the sums it stores or on the flags it raises. -/
def LightsOneVertex (lm : Bool) (body : Vertex → State → State) : Prop :=
  ∀ (s : State) (n : Vertex), ∃ c g, body .v0 (s.withFirst n) = (s.withFirst n).colourResult c lm g ∧
    ∀ f m r q, body n (s.withResults f m r q) = (s.withResults f m r q).colourResult c lm g

theorem lightsOneVertex_ncsBody (lm : Bool) : LightsOneVertex lm (ncsBody · lm) := fun s n =>
  ⟨_, _, ncsBody_eq .v0 lm (s.withFirst n), fun _ _ _ _ => ncsBody_eq n lm _⟩

theorem lightsOneVertex_nccsBody (lm : Bool) : LightsOneVertex lm (nccsBody · lm) := fun s n =>
  ⟨_, _, nccsBody_eq .v0 lm (s.withFirst n), fun _ _ _ _ => nccsBody_eq n lm _⟩

theorem lightsOneVertex_ncdsBody (lm : Bool) : LightsOneVertex lm (ncdsBody · lm) := fun s n =>
  ⟨_, _, ncdsBody_eq .v0 lm (s.withFirst n), fun _ _ _ _ => ncdsBody_eq n lm _⟩

/-- Runs on the three vertices give what a run on each from the start gives: its colour, its flags, and the results of
the last. -/
theorem LightsOneVertex.three {lm : Bool} {body : Vertex → State → State} (h : LightsOneVertex lm body)
    (s : State) :
    body .v2 (body .v1 (body .v0 s)) =
      s.withResults
        ((body .v0 s).flag ||| (body .v0 (s.withFirst .v1)).flag ||| (body .v0 (s.withFirst .v2)).flag)
        (body .v0 (s.withFirst .v2)).mac (body .v0 (s.withFirst .v2)).ir
        ⟨(body .v0 s).rgb.e2, (body .v0 (s.withFirst .v1)).rgb.e2, (body .v0 (s.withFirst .v2)).rgb.e2⟩ := by
  obtain ⟨c0, g0, hrun0, -⟩ := h s .v0
  obtain ⟨c1, g1, hrun1, hafter1⟩ := h s .v1
  obtain ⟨c2, g2, hrun2, hafter2⟩ := h s .v2
  rw [State.withFirst_v0] at hrun0
  rw [hrun1, hrun2, hrun0, State.colourResult_eq_withResults s, hafter1, State.colourResult_withResults, hafter2,
    State.colourResult_withResults, or_three_raises]
  rfl

/-- A command that lights one vertex, and the command that runs its body on all three. -/
theorem exec_triple {sf lm : Bool} {body : Vertex → State → State} (h : LightsOneVertex lm body)
    {single triple : Instr} (hsingle : ∀ s, exec single s = .next (body .v0 (s.withLatches sf lm)))
    (htriple : ∀ s, exec triple s = .next (body .v2 (body .v1 (body .v0 (s.withLatches sf lm))))) (s : State) :
    ∃ t0 t1 t2 : State,
      exec single s = .next t0 ∧
      exec single { s with v := { s.v with v0 := s.v.v1 } } = .next t1 ∧
      exec single { s with v := { s.v with v0 := s.v.v2 } } = .next t2 ∧
      exec triple s =
        .next { s with
          sf := sf, lm := lm, mac := t2.mac, ir := t2.ir, rgb := ⟨t0.rgb.e2, t1.rgb.e2, t2.rgb.e2⟩
          flag := t0.flag ||| t1.flag ||| t2.flag } := by
  refine ⟨_, _, _, hsingle _, hsingle _, hsingle _, ?_⟩
  rw [htriple, h.three]
  rfl

/-- Settles O47: the body of each pair lights one vertex. -/
theorem tripleLightingIsThreeSingles : Obligations.TripleLightingIsThreeSingles := by
  intro sf lm s p hp
  simp only [List.mem_cons, List.not_mem_nil, or_false] at hp
  obtain rfl | rfl | rfl := hp
  · exact exec_triple (lightsOneVertex_ncsBody lm) (exec_eq (.ncs sf lm)) (exec_eq (.nct sf lm)) s
  · exact exec_triple (lightsOneVertex_nccsBody lm) (exec_eq (.nccs sf lm)) (exec_eq (.ncct sf lm)) s
  · exact exec_triple (lightsOneVertex_ncdsBody lm) (exec_eq (.ncds sf lm)) (exec_eq (.ncdt sf lm)) s

end Sys2Proof.Machine

/-! ### 44_depthcue: dpcs, dpct, dcpl and intpl -/

namespace Sys2Proof.Machine

open Sys2Proof.Safety

/-! #### One blend and one colour push (R135, R136, R138, R139) -/

/-- The flag set of a blend of `c` toward the far colour and of the colour push that follows it. -/
def cueFlags (s : State) (lm : Bool) (c : Vec3 Int) : FlagSet :=
  tripleFlags s.sf false (differenceSums s c) ||| tripleFlags s.sf lm (interpolated s s.sf c) |||
    colourFlags (macTriple s.sf (interpolated s s.sf c))

/-- A command whose body blends `c` and pushes a colour: its whole next state and its flags. -/
theorem exec_of_blend {i : Instr} {s : State} {c : Vec3 Int}
    (h : commandBody i (s.withLatches (sfOf i) (lmOf i)) =
      pushColor (interpolate c (lmOf i) (s.withLatches (sfOf i) (lmOf i)))) :
    ∃ f,
      exec i s =
        .next { s with
          sf := sfOf i, lm := lmOf i, mac := macTriple (sfOf i) (interpolated s (sfOf i) c)
          ir := regs16 (irInts (sfOf i) (lmOf i) (interpolated s (sfOf i) c))
          rgb := pushedColour s.rgb (colourOf (macTriple (sfOf i) (interpolated s (sfOf i) c)) s.rgbc.code)
          flag := f } ∧
      ∀ k, hasBit f k = (s.flagged k || tripleRaises (sfOf i) false (differenceSums s c) k ||
        tripleRaises (sfOf i) (lmOf i) (interpolated s (sfOf i) c) k ||
        colourRaises (macTriple (sfOf i) (interpolated s (sfOf i) c)) k) := by
  refine ⟨_, exec_of_colourResult (h.trans (pushColor_interpolate ..)), fun k => ?_⟩
  simp only [hasBit_or, hasBit_tripleFlags, hasBit_colourFlags, State.flagged, Bool.or_assoc]
  rfl

/-- Settles O50: each of the three bodies is a blend of its own source and a colour push. -/
theorem depthCueBlendsItsSource : Obligations.DepthCueBlendsItsSource := by
  intro sf lm s p hp
  simp only [List.mem_cons, List.not_mem_nil, or_false] at hp
  obtain rfl | rfl | rfl := hp
  · exact exec_of_blend (i := .dpcs sf lm) rfl
  · exact exec_of_blend (i := .dcpl sf lm) rfl
  · exact exec_of_blend (i := .intpl sf lm) rfl

/-! #### The three colours of the FIFO (R137) -/

/-- `s` with the channels of `c` as its input colour. -/
def State.withChannels (s : State) (c : Color) : State := s.withRgbc { c with code := s.rgbc.code }

/-- `dpcs` from the input colour: its blend and its flags depend on the channels alone. -/
theorem dpcsBody_withChannels (lm : Bool) (s : State) (c : Color) :
    dpcsBody false lm (s.withChannels c) =
      (s.withChannels c).colourResult (interpolated s s.sf (colourTimes65536 c)) lm
        (cueFlags s lm (colourTimes65536 c)) := by
  rw [dpcsBody_eq, pushColor_interpolate]
  rfl

/-- `dpcs` from the FIFO, run on the results of earlier runs: it reads only the oldest colour of them. -/
theorem dpcsBody_withResults (lm : Bool) (s : State) (f : FlagSet) (m : Vec3 (BitVec 32)) (r : Vec3 (BitVec 16))
    (q : Fifo3 Color) :
    dpcsBody true lm (s.withResults f m r q) =
      (s.withResults f m r q).colourResult (interpolated s s.sf (colourTimes65536 q.e0)) lm
        (cueFlags s lm (colourTimes65536 q.e0)) := by
  rw [dpcsBody_eq, pushColor_interpolate]
  rfl

/-- Each push of the three runs leaves the next colour of the FIFO at its head, so that they cue the three colours as
`dpcs` does each of them from the start. -/
theorem dpcsBody_three (lm : Bool) (s : State) :
    dpcsBody true lm (dpcsBody true lm (dpcsBody true lm s)) =
      s.withResults
        ((dpcsBody false lm (s.withChannels s.rgb.e0)).flag ||| (dpcsBody false lm (s.withChannels s.rgb.e1)).flag |||
          (dpcsBody false lm (s.withChannels s.rgb.e2)).flag)
        (dpcsBody false lm (s.withChannels s.rgb.e2)).mac (dpcsBody false lm (s.withChannels s.rgb.e2)).ir
        ⟨(dpcsBody false lm (s.withChannels s.rgb.e0)).rgb.e2, (dpcsBody false lm (s.withChannels s.rgb.e1)).rgb.e2,
          (dpcsBody false lm (s.withChannels s.rgb.e2)).rgb.e2⟩ := by
  change dpcsBody true lm (dpcsBody true lm (dpcsBody true lm (s.withResults s.flag s.mac s.ir s.rgb))) = _
  rw [dpcsBody_withResults, State.colourResult_withResults, dpcsBody_withResults, State.colourResult_withResults,
    dpcsBody_withResults, State.colourResult_withResults, or_three_raises, dpcsBody_withChannels,
    dpcsBody_withChannels, dpcsBody_withChannels]
  rfl

/-- Settles O51: `dpct` is the three runs of `dpcsBody_three`. -/
theorem dpctCuesTheThreeFifoColours : Obligations.DpctCuesTheThreeFifoColours := by
  intro sf lm s
  refine ⟨_, _, _, exec_eq .., exec_eq .., exec_eq .., ?_⟩
  rw [exec_eq]
  exact congrArg Host.Outcome.next (dpcsBody_three lm (s.withLatches sf lm))

/-! #### A zero factor with `sf` = 1 (R136, R139) -/

/-- `MAC` receives 16 times the channel of a colour source. -/
theorem toInt_macOf_channel (x : BitVec 8) : (macOf true ((x.toNat : Int) * 65536)).toInt = (x.toNat : Int) * 16 := by
  have hscaled : scaled true ((x.toNat : Int) * 65536) = (x.toNat : Int) * 16 := by
    rw [scaled, if_pos rfl]
    omega
  rw [macOf, hscaled]
  exact toInt_ofInt32 (by omega) (by omega)

/-- The channel pushed from that `MAC` is the channel itself. -/
theorem channelOf_macOf_channel (x : BitVec 8) : channelOf (macOf true ((x.toNat : Int) * 65536)) = x := by
  have hsat : sat 0 255 ((x.toNat : Int) * 16 / 16) = (x.toNat : Int) := by
    unfold sat
    omega
  rw [channelOf, toInt_macOf_channel, hsat, BitVec.ofInt_natCast, BitVec.ofNat_toNat, BitVec.setWidth_eq]

/-- A 16-bit register shifted left by 12 comes back through the shift of `sf` = 1. -/
theorem scaled_toInt (x : BitVec 16) : scaled true (x.toInt * 4096) = x.toInt :=
  Int.mul_ediv_cancel _ (by decide)

/-- A 16-bit register is within the range of `MAC`. -/
theorem toInt_macOf_toInt (x : BitVec 16) : (macOf true (x.toInt * 4096)).toInt = x.toInt := by
  have hlo := BitVec.le_toInt x
  have hhi := BitVec.toInt_lt (x := x)
  rw [macOf, scaled_toInt]
  exact toInt_ofInt32 (by omega) (by omega)

/-- With `lm` = 0 a 16-bit register is within the range of `IR`. -/
theorem ofInt_irInt_toInt (x : BitVec 16) : BitVec.ofInt 16 (irInt true false (x.toInt * 4096)) = x := by
  have hlo := BitVec.le_toInt x
  have hhi := BitVec.toInt_lt (x := x)
  have hsat : sat (irLow false) 32767 x.toInt = x.toInt := by
    simp only [sat, irLow, Bool.false_eq_true, if_false]
    omega
  rw [irInt, scaled_toInt, hsat, BitVec.ofInt_toInt]

/-- Settles O52: the blend is its source (`interpolated_of_ir0`), which the accumulators, the clamps and the push give
back. -/
theorem zeroFactorReproducesTheSource : Obligations.ZeroFactorReproducesTheSource := by
  intro lm s hzero
  obtain ⟨f, hdpcs, -⟩ := exec_of_blend (i := .dpcs true lm) (s := s) (c := colourTimes65536 s.rgbc) rfl
  obtain ⟨g, hintpl, -⟩ := exec_of_blend (i := .intpl true false) (s := s)
    (c := ⟨s.ir.x.toInt * 4096, s.ir.y.toInt * 4096, s.ir.z.toInt * 4096⟩) rfl
  rw [interpolated_of_ir0 hzero] at hdpcs hintpl
  refine ⟨_, _, hdpcs, ?_, ?_, hintpl, ?_, ?_⟩
  · simp only [sfOf, pushedColour, colourOf, macTriple, colourTimes65536, channelOf_macOf_channel]
  · simp only [sfOf, ints, macTriple, colourTimes65536, toInt_macOf_channel]
  · simp only [sfOf, lmOf, regs16, irInts, ofInt_irInt_toInt]
  · simp only [sfOf, ints, macTriple, toInt_macOf_toInt]

end Sys2Proof.Machine

/-! ### 45_general: mvmva, gpf, gpl, sqr and op -/

namespace Sys2Proof.Machine

open Sys2Proof.Safety

/-! #### Commands that are one three-lane step (R148, R155, R156) -/

/-- What a command whose body is a three-lane step changes. -/
theorem exec_of_setTriple {i : Instr} {s : State} {c : Vec3 Int}
    (h : commandBody i (s.withLatches (sfOf i) (lmOf i)) =
      setTriple c (lmOf i) (s.withLatches (sfOf i) (lmOf i))) :
    exec i s =
      .next { s with
        sf := sfOf i, lm := lmOf i, mac := macTriple (sfOf i) c, ir := regs16 (irInts (sfOf i) (lmOf i) c)
        flag := s.flag ||| tripleFlags (sfOf i) (lmOf i) c } := by
  rw [exec_eq, h, setTriple_eq]
  rfl

/-! #### mvmva (R148 to R151) -/

/-- `mvmva` with a translation other than the far colour. -/
theorem exec_mvmva (sf lm : Bool) (mx : MatrixSel) (vx : VectorSel) {tx : TranslationSel} (htx : tx ≠ .fc)
    (s : State) :
    let c := matrixSums (namedMatrix s mx) (namedVector s vx) (namedTranslation s tx)
    exec (.mvmva sf lm mx vx tx) s =
      .next { s with
        sf := sf, lm := lm, mac := macTriple sf c, ir := regs16 (irInts sf lm c)
        flag := s.flag ||| tripleFlags sf lm c } :=
  exec_of_setTriple (mvmvaBody_eq mx vx tx htx lm (s.withLatches sf lm))

/-- `mvmva` with the far colour: the registers of the value step, the flags of both steps. -/
theorem exec_mvmva_fc (sf lm : Bool) (mx : MatrixSel) (vx : VectorSel) (s : State) :
    let m := namedMatrix s mx
    let v := namedVector s vx
    exec (.mvmva sf lm mx vx .fc) s =
      .next { s with
        sf := sf, lm := lm, mac := macTriple sf (lastColumnSums m v)
        ir := regs16 (irInts sf lm (lastColumnSums m v))
        flag := s.flag |||
          (tripleFlags sf false (farColourSums s m v) ||| tripleFlags sf lm (lastColumnSums m v)) } := by
  rw [exec_eq, commandBody, mvmvaBody_fc, mvmvaFarColour_eq]
  rfl

/-- Settles O53: `exec_mvmva` gives the state, and the flag set of its step every bit. -/
theorem mvmvaMultipliesAndTranslates : Obligations.MvmvaMultipliesAndTranslates := by
  intro sf lm mx vx tx s htx c
  refine ⟨_, exec_mvmva sf lm mx vx htx s, fun k => ?_⟩
  rw [hasBit_or, hasBit_tripleFlags, State.flagged]

/-- Settles O54: `exec_mvmva_fc` gives the state, and the flag sets of its two steps every bit. -/
theorem mvmvaFarColourDiscardsTheFirstColumn : Obligations.MvmvaFarColourDiscardsTheFirstColumn := by
  intro sf lm mx vx s m v flagSums c
  refine ⟨_, exec_mvmva_fc sf lm mx vx s, fun k => ?_⟩
  rw [hasBit_or, hasBit_or, hasBit_tripleFlags, hasBit_tripleFlags, State.flagged, Bool.or_assoc]
  rfl

/-- The sums of `mvmva` on the operands of `rtps` are its transformed sums (R148, 42_geometry R112). -/
theorem matrixSums_named_rtps (s : State) :
    matrixSums (namedMatrix s .rt) (namedVector s .v0) (namedTranslation s .tr) = transformSums s .v0 := rfl

/-- Settles O55: both commands store the transformed sums of vertex 0; the quirk of `rtps` in lane 3 concerns the flag
`IR3_SAT` alone. -/
theorem mvmvaMatchesTheTransformOfRtps : Obligations.MvmvaMatchesTheTransformOfRtps := by
  intro sf lm s
  have hmvmva := exec_mvmva sf lm .rt .v0 (tx := .tr) (by decide) s
  rw [matrixSums_named_rtps] at hmvmva
  exact ⟨_, _, hmvmva, exec_rtps sf lm s, rfl, rfl, rfl, fun _ => rfl⟩

/-! #### gpf and gpl (R153, R154) -/

/-- A command whose body is a three-lane step and a colour push: its whole next state and its flags. -/
theorem exec_of_pushedTriple {i : Instr} {s : State} {c : Vec3 Int}
    (h : commandBody i (s.withLatches (sfOf i) (lmOf i)) =
      pushColor (setTriple c (lmOf i) (s.withLatches (sfOf i) (lmOf i)))) :
    ∃ f,
      exec i s =
        .next { s with
          sf := sfOf i, lm := lmOf i, mac := macTriple (sfOf i) c, ir := regs16 (irInts (sfOf i) (lmOf i) c)
          rgb := pushedColour s.rgb (colourOf (macTriple (sfOf i) c) s.rgbc.code), flag := f } ∧
      ∀ k, hasBit f k =
        (s.flagged k || tripleRaises (sfOf i) (lmOf i) c k || colourRaises (macTriple (sfOf i) c) k) := by
  refine ⟨_, exec_of_colourResult (h.trans (pushColor_setTriple ..)), fun k => ?_⟩
  rw [hasBit_or, hasBit_or, hasBit_tripleFlags, hasBit_colourFlags, State.flagged, Bool.or_assoc]
  rfl

/-- The accumulate operand of `gpl` as a product: the pre-shift is a factor (R154). -/
theorem gplOperand_eq_mul (sf : Bool) (m : BitVec 32) : gplOperand sf m = m.toInt * if sf then 4096 else 1 := by
  cases sf
  · exact (mul_one m.toInt).symm
  · rfl

/-- Settles O56: each body is a three-lane step on the products, or on the products added to the pre-shifted `MAC`, and
a colour push. -/
theorem gpfAndGplScaleTheIrTriple : Obligations.GpfAndGplScaleTheIrTriple := by
  intro sf lm s scale g l p hp
  simp only [List.mem_cons, List.not_mem_nil, or_false] at hp
  obtain rfl | rfl := hp
  · exact exec_of_pushedTriple (i := .gpf sf lm) rfl
  · refine exec_of_pushedTriple (i := .gpl sf lm) ?_
    rw [commandBody, gplBody, gplOperand_eq_mul, gplOperand_eq_mul, gplOperand_eq_mul]
    rfl

/-! #### sqr and op (R155, R156) -/

/-- A sum that fits an accumulator. -/
def Fits32 (v : Int) : Prop := -2147483648 ≤ v ∧ v ≤ 2147483647

theorem Fits32.fits44 {v : Int} (h : Fits32 v) : Fits44 v := by
  obtain ⟨hlo, hhi⟩ := h
  exact ⟨by omega, by omega⟩

/-- A sum that fits still does after the shift that `sf` selects. -/
theorem Fits32.shifted {v : Int} (h : Fits32 v) (sf : Bool) : Fits32 (scaled sf v) := by
  obtain ⟨hlo, hhi⟩ := h
  cases sf
  · exact ⟨hlo, hhi⟩
  · rw [scaled, if_pos rfl]
    exact ⟨by omega, by omega⟩

/-- An accumulator holds the shifted value of a sum that fits exactly. -/
theorem toInt_macOf_of_fits {v : Int} (h : Fits32 v) (sf : Bool) : (macOf sf v).toInt = scaled sf v := by
  obtain ⟨hlo, hhi⟩ := h.shifted sf
  exact toInt_ofInt32 hlo hhi

/-- A lane whose sum fits raises its saturation flag alone. -/
theorem laneRaises_of_fits {v : Int} (h : Fits44 v) (i : Lane) (sf lm : Bool) (b : FlagBit) :
    laneRaises i sf lm v b = (irClamped sf lm v && decide (b = irSatBit i)) := by
  obtain ⟨hlo, hhi⟩ := h
  have hover : over44 v = false := decide_eq_false hhi.not_ge
  have hunder : under44 v = false := decide_eq_false hlo.not_gt
  simp only [laneRaises, hover, hunder, Bool.false_and, Bool.false_or, eq_comm (b := b)]

/-- A command whose body is a three-lane step on sums that fit: `MAC` holds them exactly, and only `IR1..3_SAT` can be
raised. -/
theorem exec_of_fittingTriple {i : Instr} {s : State} {c : Vec3 Int}
    (h : commandBody i (s.withLatches (sfOf i) (lmOf i)) =
      setTriple c (lmOf i) (s.withLatches (sfOf i) (lmOf i)))
    (hx : Fits32 c.x) (hy : Fits32 c.y) (hz : Fits32 c.z) :
    ∃ f m,
      exec i s =
        .next { s with
          sf := sfOf i, lm := lmOf i, mac := m, ir := regs16 (irInts (sfOf i) (lmOf i) c), flag := f } ∧
      ints m = ⟨scaled (sfOf i) c.x, scaled (sfOf i) c.y, scaled (sfOf i) c.z⟩ ∧
      ∀ k, hasBit f k =
        (s.flagged k || (irClamped (sfOf i) (lmOf i) c.x && decide (k = .ir1Sat)) ||
          (irClamped (sfOf i) (lmOf i) c.y && decide (k = .ir2Sat)) ||
          (irClamped (sfOf i) (lmOf i) c.z && decide (k = .ir3Sat))) := by
  refine ⟨_, _, exec_of_setTriple h, ?_, fun k => ?_⟩
  · simp only [ints, macTriple, toInt_macOf_of_fits hx, toInt_macOf_of_fits hy, toInt_macOf_of_fits hz]
  · simp only [hasBit_or, hasBit_tripleFlags, tripleRaises, laneRaises_of_fits hx.fits44,
      laneRaises_of_fits hy.fits44, laneRaises_of_fits hz.fits44, State.flagged, Bool.or_assoc]
    rfl

/-- The least product of two 16-bit registers is that of the two ends of their range. -/
theorem le_mul_toInt16 (a b : BitVec 16) : -32768 * 32767 ≤ a.toInt * b.toInt := by
  have ha := a.le_toInt
  have ha' := a.toInt_lt
  have hb := b.le_toInt
  have hb' := b.toInt_lt
  rcases le_total 0 a.toInt with hnonneg | hnonpos
  · have := mul_le_mul_of_nonneg_left hb hnonneg
    omega
  · have := mul_le_mul_of_nonpos_left (show b.toInt ≤ 32767 by omega) hnonpos
    omega

theorem fits32_mul (a b : BitVec 16) : Fits32 (a.toInt * b.toInt) := by
  have := mul_toInt16_bounds a b
  exact ⟨by omega, by omega⟩

/-- A difference of two products fits by the asymmetry of the signed range: 2^31 itself is not reached. -/
theorem fits32_mul_sub_mul (a b c d : BitVec 16) : Fits32 (a.toInt * b.toInt - c.toInt * d.toInt) := by
  have hab := le_mul_toInt16 a b
  have hcd := le_mul_toInt16 c d
  have hab' := mul_toInt16_bounds a b
  have hcd' := mul_toInt16_bounds c d
  exact ⟨by omega, by omega⟩

/-- The cross product with the factors in the order of the vector product D times v. -/
theorem crossDiagonal_eq (d v : Vec3 Int) :
    crossDiagonal d v = ⟨d.y * v.z - d.z * v.y, d.z * v.x - d.x * v.z, d.x * v.y - d.y * v.x⟩ := by
  simp only [crossDiagonal, mul_comm]

/-- Settles O57: each body is a three-lane step on products of 16-bit registers or on differences of two, which fit. -/
theorem sqrAndOpMultiplyTheIrTriple : Obligations.SqrAndOpMultiplyTheIrTriple := by
  intro sf lm s v d p hp
  simp only [List.mem_cons, List.not_mem_nil, or_false] at hp
  obtain rfl | rfl := hp
  · exact exec_of_fittingTriple (i := .sqr sf lm) rfl (fits32_mul ..) (fits32_mul ..) (fits32_mul ..)
  · refine exec_of_fittingTriple (i := .op sf lm) ?_ (fits32_mul_sub_mul ..) (fits32_mul_sub_mul ..)
      (fits32_mul_sub_mul ..)
    rw [commandBody, opBody, crossDiagonal_eq]
    rfl

end Sys2Proof.Machine

/-! ### 60_exceptions: CLRFLAG -/

namespace Sys2Proof.Machine

/-- The FLAG word is 0 when no stored bit is set: `ERR` is then 0 too (20_memory R58). -/
theorem flagWord_noFlags : flagWord noFlags = 0 := rfl

/-- A store of the word 0 into FLAG clears every stored bit (20_memory R54). -/
theorem flagOfWord_zero : flagOfWord 0 = noFlags := rfl

/-- A store of 0 into FLAG is CLRFLAG (60_exceptions R171). -/
theorem applyTransaction_regWrite_flag_zero (s : State) :
    applyTransaction (.regWrite 63 0) s = applyTransaction .clrFlag s :=
  calc applyTransaction (.regWrite 63 0) s
    _ = .next (s.withFlag (flagOfWord 0)) := applyTransaction_regWrite_indexOf .FLAG 0 s
    _ = .next (s.withFlag noFlags) := by rw [flagOfWord_zero]

/-- A clear FLAG stays clear under every transaction but a command and a store into FLAG: RESET and CLRFLAG clear it,
a read and a store of another word leave it. -/
theorem flag_noFlags_of_applyTransaction {tx : Transaction} {s t : State} (happ : applyTransaction tx s = .next t)
    (hclear : s.flag = noFlags) (hcommand : ∀ w, tx ≠ .command w) (hstore : ∀ w, tx ≠ .regWrite 63 w) :
    t.flag = noFlags := by
  obtain ⟨-, rfl⟩ | ⟨idx, r, -, -, rfl⟩ | ⟨idx, w, r, rfl, hr, rfl⟩ | ⟨-, rfl⟩ | ⟨cw, i, u, rfl, -, -, -⟩ :=
    applyTransaction_next happ
  · rfl
  · exact hclear
  · have hflag : RegName.FLAG ≠ r := by
      rintro rfl
      exact hstore w (congrArg (Transaction.regWrite · w) (indexOf_of_regOfIndex hr).symm)
    rw [writeReg_flag_of_ne hflag, hclear]
  · rfl
  · exact absurd rfl (hcommand cw)

/-- Settles O14: CLRFLAG stores `noFlags`, which holds no bit, reads 0 and stays by
`flag_noFlags_of_applyTransaction`; the store of 0 is `applyTransaction_regWrite_flag_zero`. -/
theorem clrFlagClearsEveryStoredBit : Obligations.ClrFlagClearsEveryStoredBit := by
  refine fun s => ⟨rfl, flagWord_noFlags, hasBit_noFlags, fun tx t happ hcommand hstore => ?_, rfl,
    applyTransaction_regWrite_flag_zero s⟩
  have hflag := flag_noFlags_of_applyTransaction happ rfl hcommand hstore
  rw [readReg, hflag, flagWord_noFlags]

end Sys2Proof.Machine
